-- ==== Sys2Proof/Word.lean ====
section
/-! DEFINITION. The word types of the block: lane words, response words, command words, and the 16-entry arrays. -/

namespace Sys2Proof

/-- A lane, a seed or a ROM word: 32 bits, unsigned (10_state.md R20, 00_scope.md R7). -/
abbrev Word := BitVec 32

/-- Response data: 64 bits (30_encoding.md R63). -/
abbrev DWord := BitVec 64

/-- A command word on `cmd_word`: 72 bits (30_encoding.md R60). -/
abbrev CmdWord := BitVec 72

/-- Sixteen words in index order: the state array, or one coefficient ROM (10_state.md R20, R28, R29). -/
abbrev Lanes := Vector Word 16

end Sys2Proof
end

