-- ==== Sys2Proof/Syntax.lean ====
section
/-! DEFINITION. The instructions: one constructor per row of spec/opcode_table.json. -/

namespace Sys2Proof

/-- The 14 commands of 30_encoding.md R64, each with the operand fields it uses (R61); fields a command does not use
are dropped, since any value there behaves as 0 (R62). -/
inductive Instr where
  /-- STATUS: read the status register (R123). -/
  | status
  /-- INFO: read the block's constants (R124). -/
  | info
  /-- INITD: seed with the default identity (R78). -/
  | initd
  /-- INIT1 s: seed all lanes from one seed (R76). -/
  | init1 (s : Word)
  /-- INIT2 s1, s2: seed the lanes from two seeds, interleaved (R77). -/
  | init2 (s1 s2 : Word)
  /-- REFILL: refill all lanes explicitly (R87). -/
  | refill
  /-- NXU32: next folded 32-bit value (R99). -/
  | nxu32
  /-- NXF32: next binary32 value from the raw lane (R100). -/
  | nxf32
  /-- NXF64: next binary64 value from one folded lane (R101). -/
  | nxf64
  /-- NXF64X2: next binary64 value from two raw lanes (R102). -/
  | nxf64x2
  /-- VWU32 i: raw lane i (R111). -/
  | vwu32 (i : BitVec 4)
  /-- VWF32 i: lane i as binary32 (R112). -/
  | vwf32 (i : BitVec 4)
  /-- VWF64 i: lane i, folded, as binary64 (R113). -/
  | vwf64 (i : BitVec 4)
  /-- VWF64X2 i: lanes i and i+1, raw, as binary64 (R114). -/
  | vwf64x2 (i : BitVec 4)
deriving DecidableEq, Repr

end Sys2Proof
end

