-- ==== Sys2Proof/Decode.lean ====
section
/-! DEFINITION. The command word (30_encoding.md R60 to R68): its fields, the decoder, and the encoder. -/

namespace Sys2Proof

/-- Why a command word is no command. -/
inductive DecodeError where
  /-- `OP` is 0xE or 0xF (30_encoding.md R66). Safe: the block answers ILLEGAL_OP, it does not stop. -/
  | reservedOpcode (op : BitVec 4)
deriving DecidableEq, Repr

/-- `OP = CMD[3:0]` (R60). -/
def fieldOp (w : CmdWord) : BitVec 4 := w.extractLsb' 0 4

/-- `IDX = CMD[7:4]` (R60). -/
def fieldIdx (w : CmdWord) : BitVec 4 := w.extractLsb' 4 4

/-- `S1 = CMD[39:8]` (R60). -/
def fieldS1 (w : CmdWord) : Word := w.extractLsb' 8 32

/-- `S2 = CMD[71:40]` (R60). -/
def fieldS2 (w : CmdWord) : Word := w.extractLsb' 40 32

/-- The decoder: `OP` alone selects the command (R64, R68), and unused fields are ignored (R62). Whether the block has the
FCU is checked when the instruction executes (60_exceptions.md R132). -/
def decode (w : CmdWord) : Except DecodeError Instr :=
  match (fieldOp w).toNat with
  | 0x0 => .ok .status
  | 0x1 => .ok .info
  | 0x2 => .ok .initd
  | 0x3 => .ok (.init1 (fieldS1 w))
  | 0x4 => .ok (.init2 (fieldS1 w) (fieldS2 w))
  | 0x5 => .ok .refill
  | 0x6 => .ok .nxu32
  | 0x7 => .ok .nxf32
  | 0x8 => .ok .nxf64
  | 0x9 => .ok .nxf64x2
  | 0xA => .ok (.vwu32 (fieldIdx w))
  | 0xB => .ok (.vwf32 (fieldIdx w))
  | 0xC => .ok (.vwf64 (fieldIdx w))
  | 0xD => .ok (.vwf64x2 (fieldIdx w))
  | _ => .error (.reservedOpcode (fieldOp w))

/-- The command word with the given fields: `CMD = {S2, S1, IDX, OP}` (R60). -/
def commandWord (s2 s1 : Word) (idx op : BitVec 4) : CmdWord := s2 ++ s1 ++ idx ++ op

/-- The encoder: every field the command does not use is 0 (R69). -/
def encode : Instr → CmdWord
  | .status => commandWord 0 0 0 0x0#4
  | .info => commandWord 0 0 0 0x1#4
  | .initd => commandWord 0 0 0 0x2#4
  | .init1 s => commandWord 0 s 0 0x3#4
  | .init2 s1 s2 => commandWord s2 s1 0 0x4#4
  | .refill => commandWord 0 0 0 0x5#4
  | .nxu32 => commandWord 0 0 0 0x6#4
  | .nxf32 => commandWord 0 0 0 0x7#4
  | .nxf64 => commandWord 0 0 0 0x8#4
  | .nxf64x2 => commandWord 0 0 0 0x9#4
  | .vwu32 i => commandWord 0 0 i 0xA#4
  | .vwf32 i => commandWord 0 0 i 0xB#4
  | .vwf64 i => commandWord 0 0 i 0xC#4
  | .vwf64x2 i => commandWord 0 0 i 0xD#4

/-- The command word whose low `nbits` bits are `w` and whose other bits are 0. -/
def tableWord (nbits w : Nat) : CmdWord := BitVec.ofNat 72 (w % 2 ^ nbits)

/-- What the decoder reads from the table's word `w` of `nbits` bits. -/
def decodeTableWord (nbits w : Nat) : Option Instr :=
  match decode (tableWord nbits w) with
  | .ok i => some i
  | .error _ => none

end Sys2Proof
end

