-- ==== Sys2Proof/Config.lean ====
section
/-! DEFINITION. What an implementation fixes (00_scope.md R4) and the free values of the spec. Every `opaque` constant here
has no body that Lean can see, so a statement proved of the model holds whatever its value is. -/

namespace Sys2Proof

/-- `N_LANES` (00_scope.md R4), as INFO shows it. -/
def nLanes : BitVec 8 := 16#8

/-- `LANE_W` (00_scope.md R4), as INFO shows it. -/
def laneW : BitVec 8 := 32#8

/-- The configuration constants of a block (00_scope.md R4, 10_state.md R31). -/
structure Config where
  /-- `HAS_FCU`: the float-conversion unit is present (30_encoding.md R65). -/
  hasFcu : Bool
  /-- `INIT2_PRESTEP` is 1 (40_seeding.md R77). -/
  init2Prestep : Bool
  /-- `VERSION_ID` (44_status.md R124). -/
  versionId : Word
  /-- `LAT` less one, so that `LAT` is at least 1 as R4 requires. -/
  latMinusOne : Nat
deriving DecidableEq, Repr, Inhabited

/-- `LAT`: the most clock cycles from acceptance to `rsp_valid` (30_encoding.md R58). -/
def Config.lat (c : Config) : Nat := c.latMinusOne + 1

/-- The two lane-coefficient ROMs (10_state.md R28, R29). -/
structure Rom where
  /-- `MULT[0..15]`. -/
  mult : Lanes
  /-- `INCR[0..15]`. -/
  incr : Lanes
deriving DecidableEq, Repr, Inhabited

/-- The property R30 asks of the ROM contents: 16 pairwise distinct pairs. A named hypothesis on the configuration; no rule
of the block's semantics depends on it. -/
abbrev Rom.DistinctPairs (r : Rom) : Prop :=
  ∀ i j : Fin 16, i ≠ j → (r.mult[i.val], r.incr[i.val]) ≠ (r.mult[j.val], r.incr[j.val])

/-- The block's constants at reset: open parameters (93_implementation_defined.md U15 to U18). DESIGN CHOICE, safe: log
entry 6. -/
opaque Config.block : Config

/-- The block's ROM contents: open parameters (93_implementation_defined.md U14). DESIGN CHOICE, safe: log entry 6. -/
opaque Rom.block : Rom

/-- The free value that `rsp_data` takes after PAIR_CROSS or VIEW_RANGE, one per draw (60_exceptions.md R134, R135;
U2, U4). Log entry 4. -/
opaque Config.freeData : Nat → DWord

/-- The free value behind a command's latency, one per draw; the acceptance reduces it to R58's window. Log entry 2. -/
opaque Config.freeDelay : Nat → Nat

/-- The free value behind the commit edge of a command, one per draw; the acceptance reduces it to the bound of
30_encoding.md R72. Log entry 2. -/
opaque Config.freeCommit : Nat → Nat

/-- Whether a sample of `buf_view` taken while a command is in flight shows the lanes after the command (true) or before
it (false), one per draw (20_memory.md R52, U11). Log entry 3. -/
opaque Config.freeSample : Nat → Bool

/-- `rsp_data` while `rsp_valid` is 0, one per draw (10_state.md R34, U23). Log entry 5. -/
opaque Config.freeBusData : Nat → DWord

/-- `rsp_err` while `rsp_valid` is 0, one per draw. Log entry 5. -/
opaque Config.freeBusErr : Nat → Bool

end Sys2Proof
end

