-- ==== Sys2Proof/Machine/Datapath.lean ====
section
/-! DEFINITION. The pure datapath: the linear-congruential steps, the seeding loops, the refill tree, the XOR-fold and the
float-conversion unit, with the IEEE-754 meaning of its outputs. -/

namespace Sys2Proof.Machine

/-! ### Steps and seeding -/

/-- `STEP(x, m, c)` is `(x * m + c) mod 2^32`: one linear-congruential step (00_scope.md R12; `lcgStep_eq` says it in R12's
order). The constants stand first because Lean's unifier unrolls a large literal that stands second. -/
def lcgStep (x m c : Word) : Word := c + m * x

/-- `STEP_A` with `SA_MUL`, `SA_INC` (00_scope.md R5, R12). UNVERIFIED literals taken as given: log entry 13. -/
def stepA (x : Word) : Word := lcgStep x 2364742333#32 14567#32

/-- `STEP_B` with `SB_MUL`, `SB_INC` (00_scope.md R5, R12). UNVERIFIED literals taken as given: log entry 13. -/
def stepB (x : Word) : Word := lcgStep x 4112992229#32 12345#32

/-- The value a seeding loop stores at its iteration `k`, from working seed `w`: each iteration first steps the working
seed and then stores it (40_seeding.md R76, R77). -/
def loopOutput (f : Word → Word) : Nat → Word → Word
  | 0, w => f w
  | k + 1, w => loopOutput f k (f w)

/-- The lanes INIT1 stores: the derived working seed is itself not stored (R76, 90_conflicts.md C3). -/
def seedOne (s : Word) : Lanes :=
  Vector.ofFn fun i => loopOutput stepA i.val (stepA s)

/-- The lanes INIT2 stores: even lanes from `s1` by `STEP_A`, odd lanes from `s2` by `STEP_B`, each seed stepped once
before the loop when `INIT2_PRESTEP` is 1 (R77). -/
def seedTwo (prestep : Bool) (s1 s2 : Word) : Lanes :=
  let a := if prestep then stepA s1 else s1
  let b := if prestep then stepB s2 else s2
  Vector.ofFn fun i => if i.val % 2 = 0 then loopOutput stepA (i.val / 2) a else loopOutput stepB (i.val / 2) b

/-! ### The refill tree -/

/-- One MAC unit: the low 32 bits of the 64-bit product, plus `c` modulo 2^32 (41_refill.md R86). -/
def macUnit (x m c : Word) : Word := (x.setWidth 64 * m.setWidth 64).setWidth 32 + c

/-- The 16 new lane values, all computed from the old ones, lane `i` with its own coefficients (R85, R91). -/
def refillTree (r : Rom) (l : Lanes) : Lanes :=
  Vector.ofFn fun i => macUnit l[i.val] r.mult[i.val] r.incr[i.val]

/-! ### The output stage -/

/-- `FOLD(x)`: the high byte XORed into the low byte (42_extract.md R93). -/
def fold (x : Word) : Word := x ^^^ (x >>> 24)

/-- `FCU32(x)`: the top 23 bits as the fraction of a binary32 pattern with exponent 127 (R94). -/
def fcu32 (x : Word) : Word := 0x3F800000#32 ||| (x >>> 9)

/-- `FCU64(y)`: `y` as the top 32 fraction bits of a binary64 pattern with exponent 1023 (R95). -/
def fcu64 (y : Word) : DWord := 0x3FF0000000000000#64 ||| (y.setWidth 64 <<< 20)

/-- `FCU64X2(v1, v2)`: both words mixed into the fraction, `v1` widened before its shift (R96, 90_conflicts.md C6). -/
def fcu64x2 (v1 v2 : Word) : DWord :=
  0x3FF0000000000000#64 ||| ((v1.setWidth 64 <<< 20) ^^^ (v2 >>> 4).setWidth 64)

/-! ### What an output pattern means (R11, R97)

The block computes no floating-point value; these functions are used by statements only. The field positions and the value
formula are general knowledge of the spec's own (93_implementation_defined.md G1 to G3): PRESUMED, log entry 14. -/

/-- The value of the NORMAL IEEE-754 number with sign `neg`, biased exponent `e` and fraction `f` of `p` bits:
`(1 + f * 2^-p) * 2^(e - bias)` (G3). `none` for every other pattern: zero, subnormal, infinity, NaN. -/
def normalValue (neg : Bool) (e f p bias top : Nat) : Option ℚ :=
  if e = 0 ∨ e = top then none
  else some ((if neg then -1 else 1) * (1 + (f : ℚ) / 2 ^ p) * (2 : ℚ) ^ ((e : ℤ) - (bias : ℤ)))

/-- `bits_f32(v)` where `v` encodes a normal number: sign bit 31, exponent bits [30:23], fraction bits [22:0] (G1). -/
def bitsF32 (v : Word) : Option ℚ :=
  normalValue (v.getLsbD 31) (v.extractLsb' 23 8).toNat (v.extractLsb' 0 23).toNat 23 127 255

/-- `bits_f64(v)` where `v` encodes a normal number: sign bit 63, exponent bits [62:52], fraction bits [51:0] (G2). -/
def bitsF64 (v : DWord) : Option ℚ :=
  normalValue (v.getLsbD 63) (v.extractLsb' 52 11).toNat (v.extractLsb' 0 52).toNat 52 1023 2047

end Sys2Proof.Machine
end

