-- ==== Sys2Proof/Machine/State.lean ====
section
/-! DEFINITION. The state of the block (10_state.md), its reset value, and the reasons a step can stop. -/

namespace Sys2Proof.Machine

/-- The reasons a step stops with a fault: none. Every error of this block is an effect the spec gives (the error action,
60_exceptions.md R136), after which the block goes on (R138); the sticky `ERR` is the record R139 asks for. Log entry 9. -/
inductive Fault
deriving DecidableEq, Repr

/-- The reasons a step is refused. -/
inductive Refusal where
  /-- The instruction has no meaning in the model yet; raised by `exec` only. Safe: nothing can be proved about its effect.
  No arm of `exec` raises it now. -/
  | notModelled (mnemonic : String)
deriving DecidableEq, Repr

/-- The causes that `ERR_CAUSE` records (60_exceptions.md R131); codes 4 to 7 are never produced (U19). -/
inductive ErrCause where
  /-- NONE, code 0. -/
  | none
  /-- ILLEGAL_OP, code 1. -/
  | illegalOp
  /-- PAIR_CROSS, code 2. -/
  | pairCross
  /-- VIEW_RANGE, code 3. -/
  | viewRange
deriving DecidableEq, Repr

/-- A response `(rsp_data, rsp_err)` (30_encoding.md R63). -/
structure Response where
  /-- `rsp_data[63:0]`. -/
  data : DWord
  /-- `rsp_err`. -/
  err : Bool
deriving DecidableEq, Repr

/-- What the host drives on the input ports at one rising edge of `clk` (30_encoding.md R55). -/
structure Pins where
  /-- `rst`. -/
  rst : Bool
  /-- `cmd_valid`. -/
  cmdValid : Bool
  /-- `cmd_word`. -/
  cmdWord : CmdWord
  /-- `rsp_ready`. -/
  rspReady : Bool
deriving DecidableEq, Repr

/-- The host drives nothing: no reset, no command, not ready for a response. -/
def Pins.idle : Pins := ⟨false, false, 0, false⟩

/-- Everything the spec gives the block, and the model's own fields (marked so). -/
structure State where
  /-- `lane[0..15]` (10_state.md R20). -/
  lanes : Lanes
  /-- `cursor`, 0 to 16 (R22, R23). -/
  cursor : Fin 17
  /-- `ERR`, sticky (R25), the command in flight included; its level at the present cycle is `State.errPort`. -/
  err : Bool
  /-- `ERR_CAUSE` (R26). -/
  errCause : ErrCause
  /-- `MULT` and `INCR`, never written (R28, R29). -/
  rom : Rom
  /-- The configuration constants, never written (R31). -/
  cfg : Config
  /-- The pending response; `busy` is 1 exactly while there is one (R33). -/
  rsp : Option Response
  /-- Model's own: the rising edges still to pass before `rsp_valid` rises (30_encoding.md R58). -/
  rspWait : Nat
  /-- Model's own: the rising edges still to pass before the command in flight has committed, 0 once it has (R72). -/
  commitWait : Nat
  /-- Model's own: the lanes before the command in flight, the old outcome of 20_memory.md R52. -/
  lanesBefore : Lanes
  /-- Model's own: `ERR` before the command in flight. -/
  errBefore : Bool
  /-- Model's own: what the host drives at the coming rising edges, the next one first (70_reset_and_hazards.md R163). -/
  host : List Pins
  /-- Model's own: the responses transferred since the last reset, oldest first (the observation of R162). -/
  delivered : List Response
  /-- Model's own: how many free values have been drawn. -/
  draws : Nat
deriving DecidableEq, Repr

/-- The reset values of the lanes: the table of 10_state.md R35. -/
def resetLanes : Lanes :=
  #v[0x5D36B172, 0x269CCE11, 0x54D51574, 0x129AD78B, 0x13267886, 0xBAD6CFD5, 0x84E24B28, 0x4DABC56F,
     0xE63B41DA, 0xB85DFAD9, 0x70D7751C, 0xAA8A8693, 0x1B79816E, 0xA343F31D, 0x1062A750, 0xAEC3DEF7]

/-- The block right after reset (10_state.md R34), its ROMs and constants the open parameters, the host silent. -/
def State.reset : State where
  lanes := resetLanes
  cursor := 0
  err := false
  errCause := .none
  rom := Rom.block
  cfg := Config.block
  rsp := none
  rspWait := 0
  commitWait := 0
  lanesBefore := resetLanes
  errBefore := false
  host := []
  delivered := []
  draws := 0

end Sys2Proof.Machine
end

