-- ==== Sys2Proof/Machine/Operands.lean ====
section
/-! DEFINITION. The operand forms: the lane index of a view (30_encoding.md R61), the lane the output mux presents
(42_extract.md R98), and the width a result takes in the response (R63). Seeds are used unchanged (R61). -/

namespace Sys2Proof.Machine

/-- The lane a 4-bit `IDX` names: `i = zext(CMD[7:4])`, in 0..15 (30_encoding.md R61). -/
def laneIndex (i : BitVec 4) : Fin 16 := ⟨i.toNat, i.isLt⟩

/-- Lane `i` of the state array (00_scope.md R9). -/
def State.lane (s : State) (i : Fin 16) : Word := s.lanes[i.val]

/-- Lanes `i` and `i + 1`, where both exist (20_memory.md R44). -/
def State.lanePair (s : State) (i : Fin 16) : Option (Word × Word) :=
  if h : i.val + 1 < 16 then some (s.lanes[i.val], s.lanes[i.val + 1]) else none

/-- A 32-bit result in `rsp_data[31:0]`, zeros above (30_encoding.md R63). -/
def narrowResult (x : Word) : DWord := x.setWidth 64

end Sys2Proof.Machine
end

