-- ==== Sys2Proof/Machine/Ops.lean ====
section
/-! DEFINITION. The named operations on the state that the commands share: loading the lanes, the refill, the cursor, the
response, and the ONE error action. -/

namespace Sys2Proof.Machine

/-! ### Writing the lanes and the cursor -/

/-- Replace all 16 lanes and set the cursor to 0: the only way a lane is ever written (10_state.md R20). -/
def State.loadLanes (s : State) (l : Lanes) : State := { s with lanes := l, cursor := 0 }

/-- `REFILL_ALL()` (41_refill.md R85). -/
def State.refillAll (s : State) : State := s.loadLanes (refillTree s.rom s.lanes)

/-- `cursor <- c`. -/
def State.setCursor (s : State) (c : Fin 17) : State := { s with cursor := c }

/-- The automatic refill of an NX* command and the lane the output mux then presents: at cursor 16 the buffer is refilled
and lane 0 presented, below 16 lane `cursor` of the buffer as it stands (41_refill.md R88, 42_extract.md R98). -/
def State.selectLane (s : State) : State × Fin 16 :=
  if h : s.cursor.val < 16 then (s, ⟨s.cursor.val, h⟩) else (s.refillAll, 0)

/-! ### The response -/

/-- `rsp <- d; rsp_err <- 0` (00_scope.md R10). -/
def State.respond (s : State) (d : DWord) : State := { s with rsp := some ⟨d, false⟩ }

/-! ### The error action -/

/-- `raise Error(cause)` with the response data `d` (60_exceptions.md R136): the first cause since reset is kept, `ERR` is
set, the response has its error bit. No lane, no cursor changes, nothing is saved, no control is transferred (R142). There
is no return from an error (R143). -/
def State.raiseError (s : State) (cause : ErrCause) (d : DWord) : State :=
  { s with errCause := if s.err then s.errCause else cause, err := true, rsp := some ⟨d, true⟩ }

/-- The error action of ILLEGAL_OP: response data 0 (R133). -/
def State.illegalOp (s : State) : State := s.raiseError .illegalOp 0

/-- Advance the counter of free values. -/
def State.drawn (s : State) : State := { s with draws := s.draws + 1 }

/-- The error action of PAIR_CROSS and VIEW_RANGE: the response data is a free value (R134, R135). Log entry 4. -/
def State.raiseUnspecified (s : State) (cause : ErrCause) : State :=
  (s.raiseError cause (Config.freeData s.draws)).drawn

/-- An FCU command: `body` where the block has the FCU, ILLEGAL_OP before anything else where it has not
(30_encoding.md R65, 60_exceptions.md R132, R140). -/
def State.withFcu (s : State) (body : State → State) : State := if s.cfg.hasFcu then body s else s.illegalOp

/-! ### Reading through the mux and through an index -/

/-- Consume one lane: refill if exhausted, answer `f` of the lane presented, advance by 1 (42_extract.md R99 to R101). -/
def State.takeOne (s : State) (f : Word → DWord) : State :=
  let (t, i) := s.selectLane
  (t.respond (f (t.lane i))).setCursor i.succ

/-- Consume a lane pair: refill if exhausted, PAIR_CROSS at 15, else answer `f` of the pair and advance by 2 (R102). -/
def State.takePair (s : State) (f : Word → Word → DWord) : State :=
  let (t, i) := s.selectLane
  if h : i.val < 15 then
    (t.respond (f t.lanes[i.val] t.lanes[i.val + 1])).setCursor ⟨i.val + 2, by omega⟩
  else t.raiseUnspecified .pairCross

/-- Answer `f` of lane `i`; nothing else changes (43_view.md R110 to R113). -/
def State.viewOne (s : State) (f : Word → DWord) (i : Fin 16) : State := s.respond (f (s.lane i))

/-- Answer `f` of lanes `i` and `i + 1`, VIEW_RANGE where the second does not exist (R114). -/
def State.viewPair (s : State) (f : Word → Word → DWord) (i : Fin 16) : State :=
  match s.lanePair i with
  | some (v1, v2) => s.respond (f v1 v2)
  | none => s.raiseUnspecified .viewRange

/-! ### Views of the interface state -/

/-- `busy` (10_state.md R33). -/
def State.busy (s : State) : Bool := s.rsp.isSome

end Sys2Proof.Machine
end

