-- ==== Sys2Proof/Machine/Extract.lean ====
section
/-! DEFINITION. The extraction commands (42_extract.md). NXU32 and NXF64 fold their lane, NXF32 and NXF64X2 do not (R105). -/

namespace Sys2Proof.Machine

/-- NXU32 (R99). -/
def execNxu32 (s : State) : Host.Outcome State Fault Refusal := .next (s.takeOne fun x => narrowResult (fold x))

/-- NXF32 (R100). -/
def execNxf32 (s : State) : Host.Outcome State Fault Refusal :=
  .next (s.withFcu fun s => s.takeOne fun x => narrowResult (fcu32 x))

/-- NXF64 (R101). -/
def execNxf64 (s : State) : Host.Outcome State Fault Refusal :=
  .next (s.withFcu fun s => s.takeOne fun x => fcu64 (fold x))

/-- NXF64X2 (R102). -/
def execNxf64x2 (s : State) : Host.Outcome State Fault Refusal := .next (s.withFcu fun s => s.takePair fcu64x2)

end Sys2Proof.Machine
end

