-- ==== Sys2Proof/Machine/Refill.lean ====
section
/-! DEFINITION. The explicit refill (41_refill.md). -/

namespace Sys2Proof.Machine

/-- REFILL (R87): legal at every cursor value; the lanes not yet consumed are discarded (R90). -/
def execRefill (s : State) : Host.Outcome State Fault Refusal := .next (s.refillAll.respond 0)

end Sys2Proof.Machine
end

