-- ==== Sys2Proof/Machine/Seeding.lean ====
section
/-! DEFINITION. The seeding commands (40_seeding.md). Each overwrites all lanes and the cursor and reads neither (R79). -/

namespace Sys2Proof.Machine

/-- INIT1 s (R76). -/
def execInit1 (seed : Word) (s : State) : Host.Outcome State Fault Refusal :=
  .next ((s.loadLanes (seedOne seed)).respond 0)

/-- INITD (R78): exactly INIT1 with seed 0. -/
def execInitd (s : State) : Host.Outcome State Fault Refusal :=
  .next ((s.loadLanes (seedOne 0)).respond 0)

/-- INIT2 s1, s2 (R77). -/
def execInit2 (s1 s2 : Word) (s : State) : Host.Outcome State Fault Refusal :=
  .next ((s.loadLanes (seedTwo s.cfg.init2Prestep s1 s2)).respond 0)

end Sys2Proof.Machine
end

