-- ==== Sys2Proof/Machine/Flags.lean ====
section
/-! DEFINITION. The status fields as bits: the cause codes, the STATUS word and the INFO word. The block has no arithmetic
flag of any kind (41_refill.md R89, 42_extract.md R97). -/

namespace Sys2Proof.Machine

/-- The 3-bit code of a cause (60_exceptions.md R131). -/
def ErrCause.code : ErrCause → BitVec 3
  | .none => 0#3
  | .illegalOp => 1#3
  | .pairCross => 2#3
  | .viewRange => 3#3

/-- The 5-bit cursor register's contents (10_state.md R22). -/
def cursorBits (c : Fin 17) : BitVec 5 := BitVec.ofNat 5 c.val

/-- The STATUS register (10_state.md R27, 44_status.md R123): from bit 63 down, 46 zeros, `INIT2_PRESTEP` [17],
`FCU_PRESENT` [16], zeros [15:12], `ERR_CAUSE` [11:9], `ERR` [8], zeros [7:5], `CURSOR` [4:0]. -/
def statusWord (s : State) : DWord :=
  0#46 ++ BitVec.ofBool s.cfg.init2Prestep ++ BitVec.ofBool s.cfg.hasFcu ++ 0#4 ++ s.errCause.code ++ BitVec.ofBool s.err
    ++ 0#3 ++ cursorBits s.cursor

/-- The INFO word (44_status.md R124): `VERSION_ID` [63:32], zeros [31:16], `LANE_W` [15:8], `N_LANES` [7:0]. -/
def infoWord (c : Config) : DWord := c.versionId ++ 0#16 ++ laneW ++ nLanes

end Sys2Proof.Machine
end

