-- ==== Sys2Proof/Machine/Status.lean ====
section
/-! DEFINITION. The status and information commands (44_status.md). -/

namespace Sys2Proof.Machine

/-- STATUS (R123): answer the status register; clears nothing. -/
def execStatus (s : State) : Host.Outcome State Fault Refusal := .next (s.respond (statusWord s))

/-- INFO (R124): answer the block's constants. -/
def execInfo (s : State) : Host.Outcome State Fault Refusal := .next (s.respond (infoWord s.cfg))

end Sys2Proof.Machine
end

