-- ==== Sys2Proof/Machine/View.lean ====
section
/-! DEFINITION. The direct buffer access commands (43_view.md). They change no lane and no cursor and never refill (R110). -/

namespace Sys2Proof.Machine

/-- VWU32 i (R111): the raw lane, no fold. -/
def execVwu32 (i : BitVec 4) (s : State) : Host.Outcome State Fault Refusal :=
  .next (s.viewOne narrowResult (laneIndex i))

/-- VWF32 i (R112): the raw lane, as NXF32. -/
def execVwf32 (i : BitVec 4) (s : State) : Host.Outcome State Fault Refusal :=
  .next (s.withFcu fun s => s.viewOne (fun x => narrowResult (fcu32 x)) (laneIndex i))

/-- VWF64 i (R113): the folded lane, as NXF64 (90_conflicts.md C2). -/
def execVwf64 (i : BitVec 4) (s : State) : Host.Outcome State Fault Refusal :=
  .next (s.withFcu fun s => s.viewOne (fun x => fcu64 (fold x)) (laneIndex i))

/-- VWF64X2 i (R114): the raw pair, as NXF64X2; VIEW_RANGE at 15. -/
def execVwf64x2 (i : BitVec 4) (s : State) : Host.Outcome State Fault Refusal :=
  .next (s.withFcu fun s => s.viewPair fcu64x2 (laneIndex i))

end Sys2Proof.Machine
end

