-- ==== Sys2Proof/Machine/Dispatch.lean ====
section
/-! DEFINITION. The dispatch of an instruction to its meaning, one arm per constructor. -/

namespace Sys2Proof.Machine

/-- One command, executed whole (20_memory.md R46): the state it leaves, its response pending. -/
def exec (i : Instr) (s : State) : Host.Outcome State Fault Refusal :=
  match i with
  | .status => Sys2Proof.Machine.execStatus s
  | .info => Sys2Proof.Machine.execInfo s
  | .initd => Sys2Proof.Machine.execInitd s
  | .init1 seed => Sys2Proof.Machine.execInit1 seed s
  | .init2 s1 s2 => Sys2Proof.Machine.execInit2 s1 s2 s
  | .refill => Sys2Proof.Machine.execRefill s
  | .nxu32 => Sys2Proof.Machine.execNxu32 s
  | .nxf32 => Sys2Proof.Machine.execNxf32 s
  | .nxf64 => Sys2Proof.Machine.execNxf64 s
  | .nxf64x2 => Sys2Proof.Machine.execNxf64x2 s
  | .vwu32 idx => Sys2Proof.Machine.execVwu32 idx s
  | .vwf32 idx => Sys2Proof.Machine.execVwf32 idx s
  | .vwf64 idx => Sys2Proof.Machine.execVwf64 idx s
  | .vwf64x2 idx => Sys2Proof.Machine.execVwf64x2 idx s

end Sys2Proof.Machine
end

