-- ==== Sys2Proof/Machine/Ports.lean ====
section
/-! DEFINITION. The output ports (30_encoding.md R55), as they stand just before the coming rising edge, the input ports
being what the host drives at that edge. -/

namespace Sys2Proof.Machine

/-- What the host drives at the coming rising edge; a host with nothing left to drive is idle. Log entry 1. -/
def State.pins (s : State) : Pins := s.host.headD Pins.idle

/-- `cmd_ready` (R57; 70_reset_and_hazards.md R150). -/
def State.cmdReady (s : State) : Bool := !s.busy && !s.pins.rst

/-- `rsp_valid` (R58; R150). -/
def State.rspValid (s : State) : Bool := s.busy && s.rspWait == 0 && !s.pins.rst

/-- `rsp_data`: the pending response's data while `rsp_valid` is 1, a free value otherwise (U23). Log entry 5. -/
def State.rspData (s : State) : DWord :=
  match s.rsp with
  | some r => if s.rspValid then r.data else Config.freeBusData s.draws
  | none => Config.freeBusData s.draws

/-- `rsp_err`: the pending response's error bit while `rsp_valid` is 1, a free value otherwise. Log entry 5. -/
def State.rspErr (s : State) : Bool :=
  match s.rsp with
  | some r => if s.rspValid then r.err else Config.freeBusErr s.draws
  | none => Config.freeBusErr s.draws

/-- This sample of `buf_view` shows the lanes before the command in flight: possible only while `busy`, and then free
(20_memory.md R52, U11). Log entry 3. -/
def State.showsOld (s : State) : Bool := s.busy && !Config.freeSample s.draws

/-- The command in flight has yet to commit (R72). -/
def State.uncommitted (s : State) : Bool := s.busy && s.commitWait != 0

/-- `err`: the level of `ERR` (10_state.md R25, 60_exceptions.md R141), which a failing command sets at its commit edge
(20_memory.md R46). Log entry 2. -/
def State.errPort (s : State) : Bool := if s.uncommitted then s.errBefore else s.err

/-- Words packed from bit 0 up, the first word lowest. -/
def packWords : List Word → BitVec 512
  | [] => 0
  | x :: xs => (packWords xs <<< 32) ||| x.setWidth 512

/-- Sixteen lanes on 512 bits, lane `i` on bits `[32*i+31 : 32*i]` (20_memory.md R42). -/
def packLanes (l : Lanes) : BitVec 512 := packWords l.toList

/-- `buf_view`: every lane at once, raw (43_view.md R115); all-old or all-new while a command is in flight. -/
def State.bufView (s : State) : BitVec 512 := packLanes (if s.showsOld then s.lanesBefore else s.lanes)

end Sys2Proof.Machine
end

