-- ==== Sys2Proof/Machine/Edge.lean ====
section
/-! DEFINITION. One rising edge of `clk`: reset, acceptance of a command, waiting, and the transfer of a response
(30_encoding.md R56 to R58, 70_reset_and_hazards.md R150, R151). -/

namespace Sys2Proof.Machine

/-- A command word executed whole: the decoded instruction, or ILLEGAL_OP for a reserved opcode (30_encoding.md R66). -/
def command (w : CmdWord) (s : State) : Host.Outcome State Fault Refusal :=
  match decode w with
  | .ok i => exec i s
  | .error _ => .next s.illegalOp

/-- The synchronous reset (R151): every piece of state to its reset value, the ROMs and the constants unaffected, a command
in flight discarded with its response. What the host goes on driving and the counter of free values are not the block's. -/
def State.resetEdge (s : State) : State :=
  { State.reset with rom := s.rom, cfg := s.cfg, host := s.host, draws := s.draws + 1 }

/-- What acceptance adds around the command: the state before it, its latency, a free value of 1 to `LAT` cycles (R58), and
its commit edge, a free one from the acceptance edge to the first edge at which `rsp_valid` is 1 (R72). Log entries 2, 3. -/
def State.begin (s : State) : State :=
  let wait := Config.freeDelay s.draws % s.cfg.lat
  { s with lanesBefore := s.lanes, errBefore := s.err, rspWait := wait
           commitWait := Config.freeCommit s.draws % (wait + 2), draws := s.draws + 1 }

/-- The transfer of the pending response: `busy` returns to 0 (R57, R58). -/
def State.transfer (s : State) (r : Response) : State :=
  { s with rsp := none, commitWait := 0, delivered := s.delivered ++ [r], draws := s.draws + 1 }

/-- An edge at which the command stays in flight: the response and the commit edge come one cycle nearer, or have come and
the response is held (R58). -/
def State.waitEdge (s : State) : State :=
  { s with rspWait := s.rspWait - 1, commitWait := s.commitWait - 1, draws := s.draws + 1 }

/-- The sample the host drove is used up. -/
def State.popPins (s : State) : State := { s with host := s.host.tail }

/-- One rising edge with the inputs `p`. -/
def edge (p : Pins) (s : State) : Host.Outcome State Fault Refusal :=
  if p.rst then .next s.resetEdge
  else
    match s.rsp with
    | none => if p.cmdValid then command p.cmdWord s.begin else .next s.drawn
    | some r =>
      if s.rspWait = 0 ∧ p.rspReady = true then .next (s.transfer r) else .next s.waitEdge

end Sys2Proof.Machine
end

