-- ==== Sys2Proof/Machine/Step.lean ====
section
/-! DEFINITION. The step: one rising edge of `clk` with what the host drives at it. -/

namespace Sys2Proof.Machine

/-- One rising edge of `clk` (30_encoding.md R55); log entry 1 says how commands come to run from reset. -/
def step (s : State) : Host.Outcome State Fault Refusal := edge s.pins s.popPins

/-- `s` with the host presenting the table's word at the coming edge, and no response pending so that the block accepts it
(30_encoding.md R56, R57). -/
def State.withFetchWord (s : State) (nbits w : Nat) : State :=
  { s with rsp := none, host := ⟨false, true, tableWord nbits w, false⟩ :: s.host }

end Sys2Proof.Machine
end

