-- ==== Sys2Proof/Laws/Datapath.lean ====
section
/-! SUPPORT. The small lemmas of the datapath: what each lane of a computed array holds, and the seeding loop as iteration. -/

namespace Sys2Proof.Machine

/-- `STEP` in the order of R12. -/
theorem lcgStep_eq (x m c : Word) : lcgStep x m c = x * m + c := by
  rw [lcgStep, BitVec.mul_comm, BitVec.add_comm]

/-- `STEP` in whole numbers (00_scope.md R7, R12). -/
theorem lcgStep_toNat (x m c : Word) : (lcgStep x m c).toNat = (x.toNat * m.toNat + c.toNat) % 2 ^ 32 := by
  rw [lcgStep_eq, BitVec.toNat_add, BitVec.toNat_mul, Nat.mod_add_mod]

theorem loopOutput_eq_iterate (f : Word → Word) (k : Nat) (w : Word) : loopOutput f k w = f^[k + 1] w := by
  induction k generalizing w with
  | zero => rfl
  | succ k ih => rw [loopOutput, ih, ← Function.iterate_succ_apply f (k + 1) w]

@[simp] theorem getElem_seedOne (s : Word) (i : Nat) (h : i < 16) :
    (seedOne s)[i] = loopOutput stepA i (stepA s) := by
  simp [seedOne]

@[simp] theorem getElem_refillTree (r : Rom) (l : Lanes) (i : Nat) (h : i < 16) :
    (refillTree r l)[i] = macUnit l[i] r.mult[i] r.incr[i] := by
  simp [refillTree]

/-- An even lane comes from the first seed. -/
theorem getElem_seedTwo_even (p : Bool) (s1 s2 : Word) (k : Nat) (h : 2 * k < 16) :
    (seedTwo p s1 s2)[2 * k] = loopOutput stepA k (if p then stepA s1 else s1) := by
  simp [seedTwo]

/-- An odd lane comes from the second seed. -/
theorem getElem_seedTwo_odd (p : Bool) (s1 s2 : Word) (k : Nat) (h : 2 * k + 1 < 16) :
    (seedTwo p s1 s2)[2 * k + 1] = loopOutput stepB k (if p then stepB s2 else s2) := by
  have h2 : (2 * k + 1) / 2 = k := by omega
  simp [seedTwo, h2]

end Sys2Proof.Machine
end

