-- ==== Sys2Proof/Laws/State.lean ====
section
/-! SUPPORT. One lemma per field per state operation, true by `rfl`, so that no proof unfolds a record update. -/

namespace Sys2Proof.Machine

variable (s : State)

@[simp] theorem State.loadLanes_lanes (l : Lanes) : (s.loadLanes l).lanes = l := rfl
@[simp] theorem State.loadLanes_cursor (l : Lanes) : (s.loadLanes l).cursor = 0 := rfl
@[simp] theorem State.loadLanes_err (l : Lanes) : (s.loadLanes l).err = s.err := rfl
@[simp] theorem State.loadLanes_errCause (l : Lanes) : (s.loadLanes l).errCause = s.errCause := rfl
@[simp] theorem State.loadLanes_rom (l : Lanes) : (s.loadLanes l).rom = s.rom := rfl
@[simp] theorem State.loadLanes_cfg (l : Lanes) : (s.loadLanes l).cfg = s.cfg := rfl
@[simp] theorem State.loadLanes_rsp (l : Lanes) : (s.loadLanes l).rsp = s.rsp := rfl
@[simp] theorem State.loadLanes_rspWait (l : Lanes) : (s.loadLanes l).rspWait = s.rspWait := rfl
@[simp] theorem State.loadLanes_commitWait (l : Lanes) : (s.loadLanes l).commitWait = s.commitWait := rfl
@[simp] theorem State.loadLanes_lanesBefore (l : Lanes) : (s.loadLanes l).lanesBefore = s.lanesBefore := rfl
@[simp] theorem State.loadLanes_errBefore (l : Lanes) : (s.loadLanes l).errBefore = s.errBefore := rfl
@[simp] theorem State.loadLanes_host (l : Lanes) : (s.loadLanes l).host = s.host := rfl
@[simp] theorem State.loadLanes_delivered (l : Lanes) : (s.loadLanes l).delivered = s.delivered := rfl
@[simp] theorem State.loadLanes_draws (l : Lanes) : (s.loadLanes l).draws = s.draws := rfl

@[simp] theorem State.setCursor_lanes (c : Fin 17) : (s.setCursor c).lanes = s.lanes := rfl
@[simp] theorem State.setCursor_cursor (c : Fin 17) : (s.setCursor c).cursor = c := rfl
@[simp] theorem State.setCursor_err (c : Fin 17) : (s.setCursor c).err = s.err := rfl
@[simp] theorem State.setCursor_errCause (c : Fin 17) : (s.setCursor c).errCause = s.errCause := rfl
@[simp] theorem State.setCursor_rom (c : Fin 17) : (s.setCursor c).rom = s.rom := rfl
@[simp] theorem State.setCursor_cfg (c : Fin 17) : (s.setCursor c).cfg = s.cfg := rfl
@[simp] theorem State.setCursor_rsp (c : Fin 17) : (s.setCursor c).rsp = s.rsp := rfl
@[simp] theorem State.setCursor_rspWait (c : Fin 17) : (s.setCursor c).rspWait = s.rspWait := rfl
@[simp] theorem State.setCursor_commitWait (c : Fin 17) : (s.setCursor c).commitWait = s.commitWait := rfl
@[simp] theorem State.setCursor_lanesBefore (c : Fin 17) : (s.setCursor c).lanesBefore = s.lanesBefore := rfl
@[simp] theorem State.setCursor_errBefore (c : Fin 17) : (s.setCursor c).errBefore = s.errBefore := rfl
@[simp] theorem State.setCursor_host (c : Fin 17) : (s.setCursor c).host = s.host := rfl
@[simp] theorem State.setCursor_delivered (c : Fin 17) : (s.setCursor c).delivered = s.delivered := rfl
@[simp] theorem State.setCursor_draws (c : Fin 17) : (s.setCursor c).draws = s.draws := rfl

@[simp] theorem State.respond_lanes (d : DWord) : (s.respond d).lanes = s.lanes := rfl
@[simp] theorem State.respond_cursor (d : DWord) : (s.respond d).cursor = s.cursor := rfl
@[simp] theorem State.respond_err (d : DWord) : (s.respond d).err = s.err := rfl
@[simp] theorem State.respond_errCause (d : DWord) : (s.respond d).errCause = s.errCause := rfl
@[simp] theorem State.respond_rom (d : DWord) : (s.respond d).rom = s.rom := rfl
@[simp] theorem State.respond_cfg (d : DWord) : (s.respond d).cfg = s.cfg := rfl
@[simp] theorem State.respond_rsp (d : DWord) : (s.respond d).rsp = some ⟨d, false⟩ := rfl
@[simp] theorem State.respond_rspWait (d : DWord) : (s.respond d).rspWait = s.rspWait := rfl
@[simp] theorem State.respond_commitWait (d : DWord) : (s.respond d).commitWait = s.commitWait := rfl
@[simp] theorem State.respond_lanesBefore (d : DWord) : (s.respond d).lanesBefore = s.lanesBefore := rfl
@[simp] theorem State.respond_errBefore (d : DWord) : (s.respond d).errBefore = s.errBefore := rfl
@[simp] theorem State.respond_host (d : DWord) : (s.respond d).host = s.host := rfl
@[simp] theorem State.respond_delivered (d : DWord) : (s.respond d).delivered = s.delivered := rfl
@[simp] theorem State.respond_draws (d : DWord) : (s.respond d).draws = s.draws := rfl

@[simp] theorem State.raiseError_lanes (k : ErrCause) (d : DWord) : (s.raiseError k d).lanes = s.lanes := rfl
@[simp] theorem State.raiseError_cursor (k : ErrCause) (d : DWord) : (s.raiseError k d).cursor = s.cursor := rfl
@[simp] theorem State.raiseError_err (k : ErrCause) (d : DWord) : (s.raiseError k d).err = true := rfl
@[simp] theorem State.raiseError_errCause (k : ErrCause) (d : DWord) : (s.raiseError k d).errCause = if s.err then s.errCause else k := rfl
@[simp] theorem State.raiseError_rom (k : ErrCause) (d : DWord) : (s.raiseError k d).rom = s.rom := rfl
@[simp] theorem State.raiseError_cfg (k : ErrCause) (d : DWord) : (s.raiseError k d).cfg = s.cfg := rfl
@[simp] theorem State.raiseError_rsp (k : ErrCause) (d : DWord) : (s.raiseError k d).rsp = some ⟨d, true⟩ := rfl
@[simp] theorem State.raiseError_rspWait (k : ErrCause) (d : DWord) : (s.raiseError k d).rspWait = s.rspWait := rfl
@[simp] theorem State.raiseError_commitWait (k : ErrCause) (d : DWord) : (s.raiseError k d).commitWait = s.commitWait := rfl
@[simp] theorem State.raiseError_lanesBefore (k : ErrCause) (d : DWord) : (s.raiseError k d).lanesBefore = s.lanesBefore := rfl
@[simp] theorem State.raiseError_errBefore (k : ErrCause) (d : DWord) : (s.raiseError k d).errBefore = s.errBefore := rfl
@[simp] theorem State.raiseError_host (k : ErrCause) (d : DWord) : (s.raiseError k d).host = s.host := rfl
@[simp] theorem State.raiseError_delivered (k : ErrCause) (d : DWord) : (s.raiseError k d).delivered = s.delivered := rfl
@[simp] theorem State.raiseError_draws (k : ErrCause) (d : DWord) : (s.raiseError k d).draws = s.draws := rfl

@[simp] theorem State.drawn_lanes : (s.drawn).lanes = s.lanes := rfl
@[simp] theorem State.drawn_cursor : (s.drawn).cursor = s.cursor := rfl
@[simp] theorem State.drawn_err : (s.drawn).err = s.err := rfl
@[simp] theorem State.drawn_errCause : (s.drawn).errCause = s.errCause := rfl
@[simp] theorem State.drawn_rom : (s.drawn).rom = s.rom := rfl
@[simp] theorem State.drawn_cfg : (s.drawn).cfg = s.cfg := rfl
@[simp] theorem State.drawn_rsp : (s.drawn).rsp = s.rsp := rfl
@[simp] theorem State.drawn_rspWait : (s.drawn).rspWait = s.rspWait := rfl
@[simp] theorem State.drawn_commitWait : (s.drawn).commitWait = s.commitWait := rfl
@[simp] theorem State.drawn_lanesBefore : (s.drawn).lanesBefore = s.lanesBefore := rfl
@[simp] theorem State.drawn_errBefore : (s.drawn).errBefore = s.errBefore := rfl
@[simp] theorem State.drawn_host : (s.drawn).host = s.host := rfl
@[simp] theorem State.drawn_delivered : (s.drawn).delivered = s.delivered := rfl
@[simp] theorem State.drawn_draws : (s.drawn).draws = s.draws + 1 := rfl

@[simp] theorem State.begin_lanes : (s.begin).lanes = s.lanes := rfl
@[simp] theorem State.begin_cursor : (s.begin).cursor = s.cursor := rfl
@[simp] theorem State.begin_err : (s.begin).err = s.err := rfl
@[simp] theorem State.begin_errCause : (s.begin).errCause = s.errCause := rfl
@[simp] theorem State.begin_rom : (s.begin).rom = s.rom := rfl
@[simp] theorem State.begin_cfg : (s.begin).cfg = s.cfg := rfl
@[simp] theorem State.begin_rsp : (s.begin).rsp = s.rsp := rfl
@[simp] theorem State.begin_rspWait : (s.begin).rspWait = Config.freeDelay s.draws % s.cfg.lat := rfl
@[simp] theorem State.begin_commitWait : (s.begin).commitWait =
    Config.freeCommit s.draws % (Config.freeDelay s.draws % s.cfg.lat + 2) := rfl
@[simp] theorem State.begin_lanesBefore : (s.begin).lanesBefore = s.lanes := rfl
@[simp] theorem State.begin_errBefore : (s.begin).errBefore = s.err := rfl
@[simp] theorem State.begin_host : (s.begin).host = s.host := rfl
@[simp] theorem State.begin_delivered : (s.begin).delivered = s.delivered := rfl
@[simp] theorem State.begin_draws : (s.begin).draws = s.draws + 1 := rfl

@[simp] theorem State.transfer_lanes (r : Response) : (s.transfer r).lanes = s.lanes := rfl
@[simp] theorem State.transfer_cursor (r : Response) : (s.transfer r).cursor = s.cursor := rfl
@[simp] theorem State.transfer_err (r : Response) : (s.transfer r).err = s.err := rfl
@[simp] theorem State.transfer_errCause (r : Response) : (s.transfer r).errCause = s.errCause := rfl
@[simp] theorem State.transfer_rom (r : Response) : (s.transfer r).rom = s.rom := rfl
@[simp] theorem State.transfer_cfg (r : Response) : (s.transfer r).cfg = s.cfg := rfl
@[simp] theorem State.transfer_rsp (r : Response) : (s.transfer r).rsp = none := rfl
@[simp] theorem State.transfer_rspWait (r : Response) : (s.transfer r).rspWait = s.rspWait := rfl
@[simp] theorem State.transfer_commitWait (r : Response) : (s.transfer r).commitWait = 0 := rfl
@[simp] theorem State.transfer_lanesBefore (r : Response) : (s.transfer r).lanesBefore = s.lanesBefore := rfl
@[simp] theorem State.transfer_errBefore (r : Response) : (s.transfer r).errBefore = s.errBefore := rfl
@[simp] theorem State.transfer_host (r : Response) : (s.transfer r).host = s.host := rfl
@[simp] theorem State.transfer_delivered (r : Response) : (s.transfer r).delivered = s.delivered ++ [r] := rfl
@[simp] theorem State.transfer_draws (r : Response) : (s.transfer r).draws = s.draws + 1 := rfl

@[simp] theorem State.waitEdge_lanes : (s.waitEdge).lanes = s.lanes := rfl
@[simp] theorem State.waitEdge_cursor : (s.waitEdge).cursor = s.cursor := rfl
@[simp] theorem State.waitEdge_err : (s.waitEdge).err = s.err := rfl
@[simp] theorem State.waitEdge_errCause : (s.waitEdge).errCause = s.errCause := rfl
@[simp] theorem State.waitEdge_rom : (s.waitEdge).rom = s.rom := rfl
@[simp] theorem State.waitEdge_cfg : (s.waitEdge).cfg = s.cfg := rfl
@[simp] theorem State.waitEdge_rsp : (s.waitEdge).rsp = s.rsp := rfl
@[simp] theorem State.waitEdge_rspWait : (s.waitEdge).rspWait = s.rspWait - 1 := rfl
@[simp] theorem State.waitEdge_commitWait : (s.waitEdge).commitWait = s.commitWait - 1 := rfl
@[simp] theorem State.waitEdge_lanesBefore : (s.waitEdge).lanesBefore = s.lanesBefore := rfl
@[simp] theorem State.waitEdge_errBefore : (s.waitEdge).errBefore = s.errBefore := rfl
@[simp] theorem State.waitEdge_host : (s.waitEdge).host = s.host := rfl
@[simp] theorem State.waitEdge_delivered : (s.waitEdge).delivered = s.delivered := rfl
@[simp] theorem State.waitEdge_draws : (s.waitEdge).draws = s.draws + 1 := rfl

@[simp] theorem State.popPins_lanes : (s.popPins).lanes = s.lanes := rfl
@[simp] theorem State.popPins_cursor : (s.popPins).cursor = s.cursor := rfl
@[simp] theorem State.popPins_err : (s.popPins).err = s.err := rfl
@[simp] theorem State.popPins_errCause : (s.popPins).errCause = s.errCause := rfl
@[simp] theorem State.popPins_rom : (s.popPins).rom = s.rom := rfl
@[simp] theorem State.popPins_cfg : (s.popPins).cfg = s.cfg := rfl
@[simp] theorem State.popPins_rsp : (s.popPins).rsp = s.rsp := rfl
@[simp] theorem State.popPins_rspWait : (s.popPins).rspWait = s.rspWait := rfl
@[simp] theorem State.popPins_commitWait : (s.popPins).commitWait = s.commitWait := rfl
@[simp] theorem State.popPins_lanesBefore : (s.popPins).lanesBefore = s.lanesBefore := rfl
@[simp] theorem State.popPins_errBefore : (s.popPins).errBefore = s.errBefore := rfl
@[simp] theorem State.popPins_host : (s.popPins).host = s.host.tail := rfl
@[simp] theorem State.popPins_delivered : (s.popPins).delivered = s.delivered := rfl
@[simp] theorem State.popPins_draws : (s.popPins).draws = s.draws := rfl

@[simp] theorem State.resetEdge_lanes : (s.resetEdge).lanes = resetLanes := rfl
@[simp] theorem State.resetEdge_cursor : (s.resetEdge).cursor = 0 := rfl
@[simp] theorem State.resetEdge_err : (s.resetEdge).err = false := rfl
@[simp] theorem State.resetEdge_errCause : (s.resetEdge).errCause = .none := rfl
@[simp] theorem State.resetEdge_rom : (s.resetEdge).rom = s.rom := rfl
@[simp] theorem State.resetEdge_cfg : (s.resetEdge).cfg = s.cfg := rfl
@[simp] theorem State.resetEdge_rsp : (s.resetEdge).rsp = none := rfl
@[simp] theorem State.resetEdge_rspWait : (s.resetEdge).rspWait = 0 := rfl
@[simp] theorem State.resetEdge_commitWait : (s.resetEdge).commitWait = 0 := rfl
@[simp] theorem State.resetEdge_lanesBefore : (s.resetEdge).lanesBefore = resetLanes := rfl
@[simp] theorem State.resetEdge_errBefore : (s.resetEdge).errBefore = false := rfl
@[simp] theorem State.resetEdge_host : (s.resetEdge).host = s.host := rfl
@[simp] theorem State.resetEdge_delivered : (s.resetEdge).delivered = [] := rfl
@[simp] theorem State.resetEdge_draws : (s.resetEdge).draws = s.draws + 1 := rfl

end Sys2Proof.Machine
end

