-- ==== Sys2Proof/Machine/Commands.lean ====
section
/-! DEFINITION. The command-level view of the block: a sequence of commands, each executed whole and its response taken
before the next (20_memory.md R49, 70_reset_and_hazards.md R162). -/

namespace Sys2Proof.Machine

/-- The responses of a command sequence, in order, and the state it leaves; `none` where a command stops. -/
def runCommands : List CmdWord → State → Option (List Response × State)
  | [], s => some ([], s)
  | w :: ws, s =>
    match command w s with
    | .next t =>
      match t.rsp, runCommands ws t with
      | some r, some (rs, u) => some (r :: rs, u)
      | _, _ => none
    | .fault _ => none
    | .refused _ => none

end Sys2Proof.Machine
end

