-- ==== Sys2Proof/WellFormed.lean ====
section
/-! DEFINITION. Which instructions a given block has. Operand ranges need no check: the operand types are the fields' own
widths (30_encoding.md R61). What remains is the one check of R65: an FCU command needs the float-conversion unit. -/

namespace Sys2Proof

/-- The column 'needs FCU' of 30_encoding.md R64. -/
def Instr.needsFcu : Instr → Bool
  | .status => false
  | .info => false
  | .initd => false
  | .init1 _ => false
  | .init2 _ _ => false
  | .refill => false
  | .nxu32 => false
  | .nxf32 => true
  | .nxf64 => true
  | .nxf64x2 => true
  | .vwu32 _ => false
  | .vwf32 _ => true
  | .vwf64 _ => true
  | .vwf64x2 _ => true

/-- `i` is a command of a block whose `HAS_FCU` is `hasFcu` (30_encoding.md R64, R65). An instruction this refuses is no
stop of the model: executing it raises ILLEGAL_OP, as R65 says. -/
def Instr.wellFormed (hasFcu : Bool) (i : Instr) : Bool :=
  !i.needsFcu || hasFcu

end Sys2Proof
end

