-- ==== Sys2Proof/Safety.lean ====
section
/-! DEFINITION. The terms claims are stated in: the fault record, the host's contract, the end of a run and its observation,
the frame predicates, and the invariant. -/

namespace Sys2Proof.Safety

open Sys2Proof.Machine

/-! ### Faults, the host's contract, runs -/

/-- No fault recorded: the premise of every claim about a run (60_exceptions.md R139). -/
abbrev NoFault (s : State) : Prop := s.err = false

/-- The host keeps the pair rule and the view index rule with its next command (70_reset_and_hazards.md R156, R157). -/
def HostKeeps (i : Instr) (s : State) : Bool :=
  match i with
  | .nxf64x2 => s.cursor.val != 15
  | .vwf64x2 idx => idx != 15#4
  | .status => true
  | .info => true
  | .initd => true
  | .init1 _ => true
  | .init2 _ _ => true
  | .refill => true
  | .nxu32 => true
  | .nxf32 => true
  | .nxf64 => true
  | .vwu32 _ => true
  | .vwf32 _ => true
  | .vwf64 _ => true

/-- The response of the last command has been transferred (R162). -/
abbrev Ended (s : State) : Prop := s.busy = false

/-- The observation of a run: its responses in order and the final lanes, cursor, `ERR` and `ERR_CAUSE` (R162). -/
structure Observation where
  responses : List Response
  lanes : Lanes
  cursor : Fin 17
  err : Bool
  errCause : ErrCause
deriving DecidableEq, Repr

/-- What a run that ended in `s` shows (R162). -/
def observe (s : State) : Observation := ⟨s.delivered, s.lanes, s.cursor, s.err, s.errCause⟩

/-! ### Frames -/

/-- What no command touches: the ROMs, the constants, the host's side, and what acceptance records around a command. -/
structure SameElsewhere (s t : State) : Prop where
  rom : t.rom = s.rom
  cfg : t.cfg = s.cfg
  rspWait : t.rspWait = s.rspWait
  commitWait : t.commitWait = s.commitWait
  lanesBefore : t.lanesBefore = s.lanesBefore
  errBefore : t.errBefore = s.errBefore
  host : t.host = s.host
  delivered : t.delivered = s.delivered

/-- Every lane and the cursor are unchanged. -/
structure SameBuffer (s t : State) : Prop where
  lanes : t.lanes = s.lanes
  cursor : t.cursor = s.cursor

/-- From `s` to `t`: the response is `d` without error, the status fields are unchanged, no free value is drawn, and
nothing but (perhaps) the lanes and the cursor changes. -/
structure Answers (s t : State) (d : DWord) : Prop where
  rsp : t.rsp = some ⟨d, false⟩
  err : t.err = s.err
  errCause : t.errCause = s.errCause
  draws : t.draws = s.draws
  elsewhere : SameElsewhere s t

/-- From `s` to `t`: the error action with `cause` (60_exceptions.md R136), which changes no lane and no cursor. -/
structure Raises (s t : State) (cause : ErrCause) : Prop where
  rspErr : t.rsp.map Response.err = some true
  err : t.err = true
  first : s.err = false → t.errCause = cause
  kept : s.err = true → t.errCause = s.errCause
  buffer : SameBuffer s t
  elsewhere : SameElsewhere s t

/-! ### The invariant -/

/-- What every step keeps, from any state that has it. -/
structure Inv (s : State) : Prop where
  /-- `ERR_CAUSE` is NONE exactly while `ERR` is 0 (10_state.md R26). -/
  cause : s.err = false ↔ s.errCause = .none
  /-- `ERR` is 1 exactly when some response since reset carried the error bit (60_exceptions.md R136, R137). -/
  record : s.err = true ↔ ∃ r ∈ s.delivered ++ s.rsp.toList, r.err = true
  /-- A pending response becomes valid within the latency bound (30_encoding.md R58). -/
  wait : s.busy = true → s.rspWait < s.cfg.lat
  /-- `ERR` is never cleared by the command in flight (R137). -/
  sticky : s.errBefore = true → s.err = true
  /-- A command in flight commits no later than the first edge at which `rsp_valid` is 1 (30_encoding.md R72). -/
  commit : s.busy = true → s.commitWait ≤ s.rspWait + 1
  /-- A command in flight changes the lanes or `ERR`, never both (R133 to R135), so no port shows part of it (R46). -/
  whole : s.busy = true → s.lanesBefore = s.lanes ∨ s.errBefore = s.err

end Sys2Proof.Safety
end

