-- ==== Sys2Proof/Laws/Ops.lean ====
section
/-! SUPPORT. What each shared operation can do, said once: the provers cite these instead of unfolding. -/

namespace Sys2Proof.Machine

open Sys2Proof.Safety

variable {s t : State}

@[simp] theorem State.lane_eq (s : State) (i : Fin 16) : s.lane i = s.lanes[i.val] := rfl

@[simp] theorem laneIndex_val (i : BitVec 4) : (laneIndex i).val = i.toNat := rfl

theorem State.refillAll_eq (s : State) : s.refillAll = s.loadLanes (refillTree s.rom s.lanes) := rfl

/-! ### The mux -/

theorem State.selectLane_of_lt (h : s.cursor.val < 16) : s.selectLane = (s, ⟨s.cursor.val, h⟩) := by
  simp [State.selectLane, h]

theorem State.selectLane_of_full (h : s.cursor = 16) : s.selectLane = (s.refillAll, 0) := by
  simp [State.selectLane, h]

/-- A cursor that is not 16 is below it. -/
theorem State.cursor_lt_or_full (s : State) : s.cursor.val < 16 ∨ s.cursor = 16 := by
  rcases Nat.lt_or_ge s.cursor.val 16 with h | h
  · exact .inl h
  · exact .inr (Fin.ext (by have := s.cursor.isLt; simp; omega))

theorem State.takeOne_of_lt (f : Word → DWord) (h : s.cursor.val < 16) :
    s.takeOne f = (s.respond (f s.lanes[s.cursor.val])).setCursor ⟨s.cursor.val + 1, by omega⟩ := by
  simp [State.takeOne, State.selectLane_of_lt h]

theorem State.takeOne_of_full (f : Word → DWord) (h : s.cursor = 16) :
    s.takeOne f = (s.refillAll.respond (f s.refillAll.lanes[0])).setCursor 1 := by
  simp [State.takeOne, State.selectLane_of_full h]

theorem State.takePair_of_lt (f : Word → Word → DWord) (h : s.cursor.val < 15) :
    s.takePair f = (s.respond (f s.lanes[s.cursor.val] s.lanes[s.cursor.val + 1])).setCursor
      ⟨s.cursor.val + 2, by omega⟩ := by
  have h' : s.cursor.val < 16 := by omega
  simp [State.takePair, State.selectLane_of_lt h', h]

theorem State.takePair_of_full (f : Word → Word → DWord) (h : s.cursor = 16) :
    s.takePair f = (s.refillAll.respond (f s.refillAll.lanes[0] s.refillAll.lanes[1])).setCursor 2 := by
  simp [State.takePair, State.selectLane_of_full h]

theorem State.takePair_of_crossing (f : Word → Word → DWord) (h : s.cursor.val = 15) :
    s.takePair f = s.raiseUnspecified .pairCross := by
  have h' : s.cursor.val < 16 := by omega
  simp [State.takePair, State.selectLane_of_lt h', h]

/-! ### Views and the FCU gate -/

theorem State.viewPair_of_lt (f : Word → Word → DWord) (i : Fin 16) (h : i.val + 1 < 16) :
    s.viewPair f i = s.respond (f s.lanes[i.val] s.lanes[i.val + 1]) := by
  simp [State.viewPair, State.lanePair, h]

theorem State.viewPair_of_last (f : Word → Word → DWord) (i : Fin 16) (h : i.val = 15) :
    s.viewPair f i = s.raiseUnspecified .viewRange := by
  simp [State.viewPair, State.lanePair, h]

@[simp] theorem State.withFcu_present (body : State → State) (h : s.cfg.hasFcu = true) : s.withFcu body = body s := by
  simp [State.withFcu, h]

@[simp] theorem State.withFcu_absent (body : State → State) (h : s.cfg.hasFcu = false) :
    s.withFcu body = s.illegalOp := by
  simp [State.withFcu, h]

/-! ### The two ends of a command -/

theorem State.respond_answers (s : State) (d : DWord) : Answers s (s.respond d) d :=
  ⟨rfl, rfl, rfl, rfl, ⟨rfl, rfl, rfl, rfl, rfl, rfl, rfl, rfl⟩⟩

theorem State.loadLanes_answers (s : State) (l : Lanes) (d : DWord) : Answers s ((s.loadLanes l).respond d) d :=
  ⟨rfl, rfl, rfl, rfl, ⟨rfl, rfl, rfl, rfl, rfl, rfl, rfl, rfl⟩⟩

theorem State.consume_answers (s : State) (d : DWord) (c : Fin 17) : Answers s ((s.respond d).setCursor c) d :=
  ⟨rfl, rfl, rfl, rfl, ⟨rfl, rfl, rfl, rfl, rfl, rfl, rfl, rfl⟩⟩

theorem State.loadLanes_consume_answers (s : State) (l : Lanes) (d : DWord) (c : Fin 17) :
    Answers s (((s.loadLanes l).respond d).setCursor c) d :=
  ⟨rfl, rfl, rfl, rfl, ⟨rfl, rfl, rfl, rfl, rfl, rfl, rfl, rfl⟩⟩

theorem State.raiseError_raises (s : State) (k : ErrCause) (d : DWord) : Raises s (s.raiseError k d) k :=
  ⟨rfl, rfl, fun h => by simp [h], fun h => by simp [h], ⟨rfl, rfl⟩, ⟨rfl, rfl, rfl, rfl, rfl, rfl, rfl, rfl⟩⟩

theorem State.illegalOp_raises (s : State) : Raises s s.illegalOp .illegalOp := s.raiseError_raises _ _

theorem State.raiseUnspecified_raises (s : State) (k : ErrCause) : Raises s (s.raiseUnspecified k) k :=
  ⟨rfl, rfl, fun h => by simp [State.raiseUnspecified, h], fun h => by simp [State.raiseUnspecified, h], ⟨rfl, rfl⟩,
    ⟨rfl, rfl, rfl, rfl, rfl, rfl, rfl, rfl⟩⟩

/-- What a command can do to a state: answer without error, or raise one error that has a cause. -/
def CommandEffect (s t : State) : Prop := (∃ d, Answers s t d) ∨ ∃ k, k ≠ .none ∧ Raises s t k

theorem State.takeOne_effect (s : State) (f : Word → DWord) : CommandEffect s (s.takeOne f) := by
  rcases s.cursor_lt_or_full with h | h
  · rw [State.takeOne_of_lt f h]; exact .inl ⟨_, s.consume_answers _ _⟩
  · rw [State.takeOne_of_full f h]; exact .inl ⟨_, s.loadLanes_consume_answers _ _ _⟩

theorem State.takePair_effect (s : State) (f : Word → Word → DWord) : CommandEffect s (s.takePair f) := by
  rcases s.cursor_lt_or_full with h | h
  · rcases Nat.lt_or_ge s.cursor.val 15 with h' | h'
    · rw [State.takePair_of_lt f h']; exact .inl ⟨_, s.consume_answers _ _⟩
    · rw [State.takePair_of_crossing f (by omega)]
      exact .inr ⟨.pairCross, nofun, s.raiseUnspecified_raises .pairCross⟩
  · rw [State.takePair_of_full f h]; exact .inl ⟨_, s.loadLanes_consume_answers _ _ _⟩

theorem State.viewPair_effect (s : State) (f : Word → Word → DWord) (i : Fin 16) : CommandEffect s (s.viewPair f i) := by
  rcases Nat.lt_or_ge (i.val + 1) 16 with h | h
  · rw [State.viewPair_of_lt f i h]; exact .inl ⟨_, s.respond_answers _⟩
  · rw [State.viewPair_of_last f i (by omega)]; exact .inr ⟨.viewRange, nofun, s.raiseUnspecified_raises .viewRange⟩

theorem State.withFcu_effect (s : State) (body : State → State) (h : CommandEffect s (body s)) :
    CommandEffect s (s.withFcu body) := by
  unfold State.withFcu
  split
  · exact h
  · exact .inr ⟨.illegalOp, nofun, s.illegalOp_raises⟩

/-- The one inversion lemma of `exec`: it answers a next state, and that state is an answer or an error. -/
theorem exec_effect (i : Instr) (s : State) : ∃ t, exec i s = .next t ∧ CommandEffect s t := by
  cases i with
  | status => exact ⟨_, rfl, .inl ⟨_, s.respond_answers _⟩⟩
  | info => exact ⟨_, rfl, .inl ⟨_, s.respond_answers _⟩⟩
  | initd => exact ⟨_, rfl, .inl ⟨_, s.loadLanes_answers _ _⟩⟩
  | init1 => exact ⟨_, rfl, .inl ⟨_, s.loadLanes_answers _ _⟩⟩
  | init2 => exact ⟨_, rfl, .inl ⟨_, s.loadLanes_answers _ _⟩⟩
  | refill => exact ⟨_, rfl, .inl ⟨_, s.loadLanes_answers _ _⟩⟩
  | nxu32 => exact ⟨_, rfl, s.takeOne_effect _⟩
  | nxf32 => exact ⟨_, rfl, s.withFcu_effect _ (s.takeOne_effect _)⟩
  | nxf64 => exact ⟨_, rfl, s.withFcu_effect _ (s.takeOne_effect _)⟩
  | nxf64x2 => exact ⟨_, rfl, s.withFcu_effect _ (s.takePair_effect _)⟩
  | vwu32 => exact ⟨_, rfl, .inl ⟨_, s.respond_answers _⟩⟩
  | vwf32 => exact ⟨_, rfl, s.withFcu_effect _ (.inl ⟨_, s.respond_answers _⟩)⟩
  | vwf64 => exact ⟨_, rfl, s.withFcu_effect _ (.inl ⟨_, s.respond_answers _⟩)⟩
  | vwf64x2 => exact ⟨_, rfl, s.withFcu_effect _ (s.viewPair_effect _ _)⟩

/-- The same of a command word, a reserved opcode included. -/
theorem command_effect (w : CmdWord) (s : State) : ∃ t, command w s = .next t ∧ CommandEffect s t := by
  unfold command
  split
  · exact exec_effect _ s
  · exact ⟨_, rfl, .inr ⟨.illegalOp, nofun, s.illegalOp_raises⟩⟩

end Sys2Proof.Machine
end

