-- ==== Sys2Proof/Laws/Edge.lean ====
section
/-! SUPPORT. What one rising edge can do, said once. -/

namespace Sys2Proof.Machine

open Sys2Proof.Safety

/-- All that `err` can be. -/
theorem State.errPort_eq (s : State) :
    s.errPort = if s.busy = true ∧ s.commitWait ≠ 0 then s.errBefore else s.err := by
  simp [State.errPort, State.uncommitted]

/-- The inversion lemma of `edge`: it answers a next state, by one of five events. -/
theorem edge_cases (p : Pins) (s : State) :
    (p.rst = true ∧ edge p s = .next s.resetEdge) ∨
    (p.rst = false ∧ s.rsp = none ∧ p.cmdValid = false ∧ edge p s = .next s.drawn) ∨
    (p.rst = false ∧ s.rsp = none ∧ p.cmdValid = true ∧ edge p s = command p.cmdWord s.begin) ∨
    (p.rst = false ∧ ∃ r, s.rsp = some r ∧
      ((¬ (s.rspWait = 0 ∧ p.rspReady = true) ∧ edge p s = .next s.waitEdge) ∨
       (s.rspWait = 0 ∧ p.rspReady = true ∧ edge p s = .next (s.transfer r)))) := by
  unfold edge
  cases hp : p.rst
  · cases hr : s.rsp with
    | none => cases hv : p.cmdValid <;> simp
    | some r => by_cases hw : s.rspWait = 0 <;> cases hy : p.rspReady <;> simp [hw]
  · simp

/-- A step always answers a next state. -/
theorem step_next (s : State) : ∃ t, step s = .next t := by
  unfold step
  rcases edge_cases s.pins s.popPins with ⟨_, h⟩ | ⟨_, _, _, h⟩ | ⟨_, _, _, h⟩ | ⟨_, r, _, ⟨_, h⟩ | ⟨_, _, h⟩⟩ <;> rw [h]
  case inr.inr.inl => exact (command_effect _ _).imp fun _ h => h.1
  all_goals exact ⟨_, rfl⟩

/-- One more step at the front of a run. -/
theorem run_succ (M : Host.Core) (k : Nat) (s t : M.State) (h : M.step s = .next t) : M.run (k + 1) s = M.run k t := by
  rw [Host.Core.run, h]

/-- One more step at the end of a run. -/
theorem run_snoc (M : Host.Core) (k : Nat) (s t u : M.State) (h : M.run k s = .next t) (h' : M.step t = .next u) :
    M.run (k + 1) s = .next u := by
  induction k generalizing s with
  | zero => cases h; rw [run_succ M 0 _ _ h']; rfl
  | succ k ih =>
    cases hs : M.step s with
    | next v => rw [run_succ M k _ _ hs] at h; rw [run_succ M (k + 1) _ _ hs]; exact ih v h
    | fault r => rw [Host.Core.run, hs] at h; cases h
    | refused r => rw [Host.Core.run, hs] at h; cases h

end Sys2Proof.Machine
end

