-- ==== Sys2Proof/Laws/PerInstr.lean ====
section
/-! SUPPORT. Statements made per instruction: the fields of each instruction's encoding. -/

namespace Sys2Proof.Laws.EncodedFields

/-- The opcode of `i` in 30_encoding.md R64. -/
def opcode : Instr → BitVec 4
  | .status => 0x0#4
  | .info => 0x1#4
  | .initd => 0x2#4
  | .init1 _ => 0x3#4
  | .init2 _ _ => 0x4#4
  | .refill => 0x5#4
  | .nxu32 => 0x6#4
  | .nxf32 => 0x7#4
  | .nxf64 => 0x8#4
  | .nxf64x2 => 0x9#4
  | .vwu32 _ => 0xA#4
  | .vwf32 _ => 0xB#4
  | .vwf64 _ => 0xC#4
  | .vwf64x2 _ => 0xD#4

/-- The encoding of `i` has the opcode of `i` in its `OP` field, and only an opcode of R65's list needs the FCU. -/
def Statement (i : Instr) : Prop :=
  fieldOp (encode i) = opcode i ∧ (i.needsFcu = true ↔ opcode i ∈ [0x7#4, 0x8#4, 0x9#4, 0xB#4, 0xC#4, 0xD#4])

/-- The `OP` field of a word put together from its fields. -/
theorem fieldOp_commandWord (s2 s1 : Word) (idx op : BitVec 4) : fieldOp (commandWord s2 s1 idx op) = op := by
  apply BitVec.eq_of_getLsbD_eq
  intro j hj
  simp only [fieldOp, commandWord, BitVec.getLsbD_extractLsb', BitVec.getLsbD_append]
  simp [hj]

theorem status : Statement .status :=
  ⟨fieldOp_commandWord _ _ _ _, by simp [Instr.needsFcu, opcode]⟩

theorem info : Statement .info :=
  ⟨fieldOp_commandWord _ _ _ _, by simp [Instr.needsFcu, opcode]⟩

theorem initd : Statement .initd :=
  ⟨fieldOp_commandWord _ _ _ _, by simp [Instr.needsFcu, opcode]⟩

theorem init1 (s : Word) : Statement (.init1 s) :=
  ⟨fieldOp_commandWord _ _ _ _, by simp [Instr.needsFcu, opcode]⟩

theorem init2 (s1 s2 : Word) : Statement (.init2 s1 s2) :=
  ⟨fieldOp_commandWord _ _ _ _, by simp [Instr.needsFcu, opcode]⟩

theorem refill : Statement .refill :=
  ⟨fieldOp_commandWord _ _ _ _, by simp [Instr.needsFcu, opcode]⟩

theorem nxu32 : Statement .nxu32 :=
  ⟨fieldOp_commandWord _ _ _ _, by simp [Instr.needsFcu, opcode]⟩

theorem nxf32 : Statement .nxf32 :=
  ⟨fieldOp_commandWord _ _ _ _, by simp [Instr.needsFcu, opcode]⟩

theorem nxf64 : Statement .nxf64 :=
  ⟨fieldOp_commandWord _ _ _ _, by simp [Instr.needsFcu, opcode]⟩

theorem nxf64x2 : Statement .nxf64x2 :=
  ⟨fieldOp_commandWord _ _ _ _, by simp [Instr.needsFcu, opcode]⟩

theorem vwu32 (i : BitVec 4) : Statement (.vwu32 i) :=
  ⟨fieldOp_commandWord _ _ _ _, by simp [Instr.needsFcu, opcode]⟩

theorem vwf32 (i : BitVec 4) : Statement (.vwf32 i) :=
  ⟨fieldOp_commandWord _ _ _ _, by simp [Instr.needsFcu, opcode]⟩

theorem vwf64 (i : BitVec 4) : Statement (.vwf64 i) :=
  ⟨fieldOp_commandWord _ _ _ _, by simp [Instr.needsFcu, opcode]⟩

theorem vwf64x2 (i : BitVec 4) : Statement (.vwf64x2 i) :=
  ⟨fieldOp_commandWord _ _ _ _, by simp [Instr.needsFcu, opcode]⟩

end Sys2Proof.Laws.EncodedFields
end

