-- ==== Sys2Proof/Machine/Assembler.lean ====
section
/-! DEFINITION. The spec's assembly syntax (30_encoding.md R69) and its pseudo-instructions (R70): one line of text to the
instruction it stands for. Text conventions R69 leaves open are DESIGN CHOICES of log entry 16. -/

namespace Sys2Proof.Machine

/-- Why the assembler refuses a line (R69). Safe: a refused line gives no command word. -/
inductive AsmError where
  /-- No mnemonic of R64 and no pseudo-instruction of R70; a reserved opcode has no mnemonic. -/
  | unknownMnemonic
  /-- A missing or an extra operand. -/
  | operandCount
  /-- An operand that is neither a decimal nor a `0x` hexadecimal number. -/
  | notANumber
  /-- A seed above 4294967295. -/
  | seedRange
  /-- An index above 15. -/
  | indexRange
deriving DecidableEq, Repr

/-- A seed operand: 0 to 4294967295 (R69). -/
def asmSeed (n : Nat) : Except AsmError Word :=
  if n ≤ 4294967295 then .ok (BitVec.ofNat 32 n) else .error .seedRange

/-- An index operand: 0 to 15 (R69). -/
def asmIndex (n : Nat) : Except AsmError (BitVec 4) :=
  if n ≤ 15 then .ok (BitVec.ofNat 4 n) else .error .indexRange

/-- The operand forms of R69: none, one index, one seed, two seeds, and the three of `NEW` (R70). -/
inductive AsmForm where
  | plain (i : Instr)
  | index (op : BitVec 4)
  | oneSeed
  | twoSeeds
  | new
deriving DecidableEq, Repr

/-- The view command with opcode `op` on lane `i` (R64). -/
def viewInstr (op i : BitVec 4) : Instr :=
  if op = 0xA#4 then .vwu32 i else if op = 0xB#4 then .vwf32 i else if op = 0xC#4 then .vwf64 i else .vwf64x2 i

/-- The instruction with one seed operand. -/
def asmInit1 (n : Nat) : Except AsmError Instr :=
  match asmSeed n with
  | .ok s => .ok (.init1 s)
  | .error e => .error e

/-- The instruction with two seed operands. -/
def asmInit2 (n1 n2 : Nat) : Except AsmError Instr :=
  match asmSeed n1, asmSeed n2 with
  | .ok s1, .ok s2 => .ok (.init2 s1 s2)
  | .error e, _ => .error e
  | _, .error e => .error e

/-- The instruction a form makes of its operands, or the refusal (R69, R70). -/
def assembleForm : AsmForm → List Nat → Except AsmError Instr
  | .plain i, [] => .ok i
  | .index op, [n] =>
    match asmIndex n with
    | .ok i => .ok (viewInstr op i)
    | .error e => .error e
  | .oneSeed, [n] => asmInit1 n
  | .twoSeeds, [n1, n2] => asmInit2 n1 n2
  | .new, [] => .ok .initd
  | .new, [n] => asmInit1 n
  | .new, [n1, n2] => asmInit2 n1 n2
  | _, _ => .error .operandCount

/-- The mnemonics of R64 and R70 with their operand forms. -/
def asmForms : List (List Char × AsmForm) :=
  [("STATUS".toList, .plain .status), ("INFO".toList, .plain .info), ("INITD".toList, .plain .initd),
   ("INIT1".toList, .oneSeed), ("INIT2".toList, .twoSeeds), ("REFILL".toList, .plain .refill),
   ("NXU32".toList, .plain .nxu32), ("NXF32".toList, .plain .nxf32), ("NXF64".toList, .plain .nxf64),
   ("NXF64X2".toList, .plain .nxf64x2)] ++
  [("VWU32".toList, .index 0xA#4), ("VWF32".toList, .index 0xB#4), ("VWF64".toList, .index 0xC#4),
   ("VWF64X2".toList, .index 0xD#4), ("NEW".toList, .new)]

/-- A blank of the text. -/
def isBlank (c : Char) : Bool := c = ' ' || c = '\t'

/-- The text without the blanks at both its ends. -/
def trimBlanks (l : List Char) : List Char := ((l.dropWhile isBlank).reverse.dropWhile isBlank).reverse

/-- The text up to the comment, which runs from `;` to the end of the line (R69). -/
def dropComment (l : List Char) : List Char := l.takeWhile (· ≠ ';')

/-- The pieces of the text between commas. -/
def splitCommas : List Char → List (List Char)
  | [] => [[]]
  | c :: cs =>
    if c = ',' then [] :: splitCommas cs
    else
      match splitCommas cs with
      | [] => [[c]]
      | x :: xs => (c :: x) :: xs

/-- The value of a digit below `base`, upper and lower case letters alike. -/
def digitValue (base : Nat) (c : Char) : Option Nat :=
  let v := if '0' ≤ c ∧ c ≤ '9' then c.toNat - 48
    else if 'a' ≤ c ∧ c ≤ 'f' then c.toNat - 87
    else if 'A' ≤ c ∧ c ≤ 'F' then c.toNat - 55
    else 16
  if v < base then some v else none

/-- The value of a list of digits, most significant first, continuing from `acc`. -/
def digitsValue (base : Nat) : Nat → List Char → Option Nat
  | acc, [] => some acc
  | acc, c :: cs =>
    match digitValue base c with
    | some v => digitsValue base (acc * base + v) cs
    | none => none

/-- A number in decimal or `0x` hexadecimal (R69). -/
def asmNumber : List Char → Option Nat
  | '0' :: 'x' :: d :: ds => digitsValue 16 0 (d :: ds)
  | d :: ds => digitsValue 10 0 (d :: ds)
  | [] => none

/-- The numbers of an operand list. R69 gives the two number bases for seeds only; that a lane index is read in the same two
bases (`VWU32 0xF`) is a DESIGN CHOICE of log entry 16. -/
def asmNumbers : List (List Char) → Option (List Nat)
  | [] => some []
  | x :: xs =>
    match asmNumber (trimBlanks x), asmNumbers xs with
    | some n, some ns => some (n :: ns)
    | _, _ => none

/-- The instruction of a mnemonic and its operands (R69, R70). -/
def assembleOperands (mnemonic : List Char) (ns : List Nat) : Except AsmError Instr :=
  match asmForms.lookup mnemonic with
  | some form => assembleForm form ns
  | none => .error .unknownMnemonic

/-- One line: the mnemonic, then its operands separated by commas, then an optional comment (R69). A line that is blank but
for its comment holds no command. -/
def assembleLine (line : List Char) : Except AsmError (Option Instr) :=
  let text := trimBlanks (dropComment line)
  if text = [] then .ok none
  else
    let rest := trimBlanks (text.dropWhile (!isBlank ·))
    match asmNumbers (if rest = [] then [] else splitCommas rest) with
    | none => .error .notANumber
    | some ns =>
      match assembleOperands (text.takeWhile (!isBlank ·)) ns with
      | .ok i => .ok (some i)
      | .error e => .error e

/-- The command word of a line (R69: `CMD = {S2, S1, IDX, OP}`, 0 in every field the command does not use). -/
def assembleWord (line : List Char) : Except AsmError (Option CmdWord) :=
  match assembleLine line with
  | .ok (some i) => .ok (some (encode i))
  | .ok none => .ok none
  | .error e => .error e

/-- The mnemonic and the operands of an instruction, as R69 writes them. -/
def disassemble : Instr → List Char × List Nat
  | .status => ("STATUS".toList, [])
  | .info => ("INFO".toList, [])
  | .initd => ("INITD".toList, [])
  | .init1 s => ("INIT1".toList, [s.toNat])
  | .init2 s1 s2 => ("INIT2".toList, [s1.toNat, s2.toNat])
  | .refill => ("REFILL".toList, [])
  | .nxu32 => ("NXU32".toList, [])
  | .nxf32 => ("NXF32".toList, [])
  | .nxf64 => ("NXF64".toList, [])
  | .nxf64x2 => ("NXF64X2".toList, [])
  | .vwu32 i => ("VWU32".toList, [i.toNat])
  | .vwf32 i => ("VWF32".toList, [i.toNat])
  | .vwf64 i => ("VWF64".toList, [i.toNat])
  | .vwf64x2 i => ("VWF64X2".toList, [i.toNat])

end Sys2Proof.Machine
end

