-- ==== Sys2Proof/Certificates/Slice0/Obligations.lean ====
section
/-! DEFINITION. The statements for the provers. -/

namespace Sys2Proof.Claims

open Sys2Proof.Machine Sys2Proof.Safety

/-! ### Terms of the statements -/

/-- Lane `i` of `t` is one lane step of lane `i` of `s`, in whole numbers, for every lane (41_refill.md R85, R89). -/
def Refilled (s t : State) : Prop :=
  ∀ (i : Nat) (h : i < 16),
    t.lanes[i].toNat = (s.lanes[i].toNat * s.rom.mult[i].toNat + s.rom.incr[i].toNat) % 2 ^ 32

/-- From `s` to `t`: a single-lane extraction that answers `f` of the lane it reads (42_extract.md R99 to R103). -/
def ConsumesOne (f : Word → DWord) (s t : State) : Prop :=
  (∀ h : s.cursor.val < 16,
    t.lanes = s.lanes ∧ t.cursor.val = s.cursor.val + 1 ∧ Answers s t (f s.lanes[s.cursor.val])) ∧
  (s.cursor.val = 16 → Refilled s t ∧ t.cursor.val = 1 ∧ Answers s t (f t.lanes[0]))

/-- From `s` to `t`: a pair extraction that answers `f` of the lanes it reads (R102, R103). -/
def ConsumesTwo (f : Word → Word → DWord) (s t : State) : Prop :=
  (∀ h : s.cursor.val < 15,
    t.lanes = s.lanes ∧ t.cursor.val = s.cursor.val + 2 ∧
      Answers s t (f s.lanes[s.cursor.val] s.lanes[s.cursor.val + 1])) ∧
  (s.cursor.val = 16 → Refilled s t ∧ t.cursor.val = 2 ∧ Answers s t (f t.lanes[0] t.lanes[1]))

/-- What the block holds that a later command can see: lanes, cursor, status fields, ROMs and constants. -/
structure SameBlock (s t : State) : Prop where
  buffer : SameBuffer s t
  err : t.err = s.err
  errCause : t.errCause = s.errCause
  rom : t.rom = s.rom
  cfg : t.cfg = s.cfg

/-- The opcodes of the commands that need the FCU (30_encoding.md R65). -/
def fcuOpcodes : List (BitVec 4) := [0x7#4, 0x8#4, 0x9#4, 0xB#4, 0xC#4, 0xD#4]

/-- The cause 60_exceptions.md R131 gives the command word `w` in state `s`. -/
def causeOf (w : CmdWord) (s : State) : ErrCause :=
  if fieldOp w = 0xE#4 ∨ fieldOp w = 0xF#4 ∨ (s.cfg.hasFcu = false ∧ fieldOp w ∈ fcuOpcodes) then .illegalOp
  else if fieldOp w = 0x9#4 ∧ s.cursor.val = 15 then .pairCross
  else if fieldOp w = 0xD#4 ∧ fieldIdx w = 15#4 then .viewRange
  else .none

/-- The instructions that never advance the cursor or write a lane: the views, STATUS and INFO (20_memory.md R47). -/
def ReadOnly (i : Instr) : Prop :=
  i = .status ∨ i = .info ∨ ∃ idx, i = .vwu32 idx ∨ i = .vwf32 idx ∨ i = .vwf64 idx ∨ i = .vwf64x2 idx

/-- Every command word with opcode `op` decodes to the instruction `i` makes of its fields (30_encoding.md R64, R61). -/
def Encoded (op : BitVec 4) (i : CmdWord → Instr) : Prop := ∀ w : CmdWord, fieldOp w = op → decode w = .ok (i w)

/-- On a block without the FCU, `i` raises ILLEGAL_OP and answers 0, whatever the cursor (R65, 60_exceptions.md R133). -/
def IllegalWithoutFcu (i : Instr) : Prop :=
  ∀ s : State, s.cfg.hasFcu = false → ∃ t, exec i s = .next t ∧ Raises s t .illegalOp ∧ t.rsp = some ⟨0, true⟩

/-- The pins of a host that sends `w` and is ready for its response at each of the next `n` edges. -/
def patient (n : Nat) (w : CmdWord) : List Pins :=
  ⟨false, true, w, true⟩ :: List.replicate n ⟨false, false, 0, true⟩

end Sys2Proof.Claims

open Sys2Proof Sys2Proof.Machine Sys2Proof.Safety Sys2Proof.Claims

/-! ### Encoding and decoding -/

/-- R60, R61, R64, R69: the decoder inverts the encoder, every operand at every value. -/
def Obligations.DecodeOfEncodeIsTheInstruction : Prop := ∀ i : Instr, decode (encode i) = .ok i

/-- Words written out in 95_test_vectors.md decode to the commands named beside them, one or more of each family. -/
def Obligations.SpecWordsDecodeToTheirCommands : Prop :=
  decode 0x000000000000000000#72 = .ok .status ∧ decode 0x000000000000000002#72 = .ok .initd ∧
  decode 0x00000000FFFFFFFF03#72 = .ok (.init1 0xFFFFFFFF#32) ∧ decode 0x000000020000000104#72 = .ok (.init2 1#32 2#32) ∧
  decode 0x000000000000000005#72 = .ok .refill ∧ decode 0x000000000000000009#72 = .ok .nxf64x2 ∧
  decode 0x00001234ABCDEF0156#72 = .ok .nxu32 ∧ decode 0x0000000000000000ED#72 = .ok (.vwf64x2 14#4) ∧
  decode 0x00000000000000000E#72 = .error (.reservedOpcode 0xE#4)

/-- R60: the word is the sum of its fields at their places, the fields read back, and they cover the word. -/
def Obligations.CommandWordIsTheSumOfItsFields : Prop :=
  (∀ (s2 s1 : Word) (idx op : BitVec 4),
    (commandWord s2 s1 idx op).toNat = s2.toNat * 2 ^ 40 + s1.toNat * 2 ^ 8 + idx.toNat * 2 ^ 4 + op.toNat ∧
    fieldS2 (commandWord s2 s1 idx op) = s2 ∧ fieldS1 (commandWord s2 s1 idx op) = s1 ∧
    fieldIdx (commandWord s2 s1 idx op) = idx ∧ fieldOp (commandWord s2 s1 idx op) = op) ∧
  ∀ w : CmdWord, commandWord (fieldS2 w) (fieldS1 w) (fieldIdx w) (fieldOp w) = w

/-- R62: a field a command does not use has no influence on what the word does, and the encoder writes 0 there. -/
def Obligations.UnusedFieldsAreIgnored : Prop :=
  (∀ (w w' : CmdWord) (s : State), fieldOp w = fieldOp w' →
    (fieldOp w ∈ [0xA#4, 0xB#4, 0xC#4, 0xD#4] → fieldIdx w = fieldIdx w') →
    (fieldOp w ∈ [0x3#4, 0x4#4] → fieldS1 w = fieldS1 w') →
    (fieldOp w = 0x4#4 → fieldS2 w = fieldS2 w') → command w s = command w' s) ∧
  ∀ i : Instr,
    (fieldOp (encode i) ∉ [0xA#4, 0xB#4, 0xC#4, 0xD#4] → fieldIdx (encode i) = 0) ∧
    (fieldOp (encode i) ∉ [0x3#4, 0x4#4] → fieldS1 (encode i) = 0) ∧
    (fieldOp (encode i) ≠ 0x4#4 → fieldS2 (encode i) = 0)

/-- R64, R66: the words that decode are those whose opcode is below 0xE, and the instruction read has the word's opcode. -/
def Obligations.ExactlyFourteenOpcodesDecode : Prop :=
  ∀ w : CmdWord, ((fieldOp w).toNat < 14 ↔ ∃ i, decode w = .ok i) ∧
    ∀ i, decode w = .ok i → fieldOp (encode i) = fieldOp w

/-- R66, R133: a reserved opcode raises ILLEGAL_OP, changes no lane and no cursor, and answers data 0. -/
def Obligations.ReservedOpcodeRaisesIllegalOp : Prop :=
  ∀ (w : CmdWord) (s : State), fieldOp w = 0xE#4 ∨ fieldOp w = 0xF#4 →
    ∃ t, command w s = .next t ∧ Raises s t .illegalOp ∧ t.rsp = some ⟨0, true⟩

/-- R64, R65: the instructions that need the FCU are those of six opcodes. Without the FCU they raise ILLEGAL_OP exactly as a
reserved opcode does, whatever the cursor and the index; with it each answers, but for the pair forms at cursor or index 15,
which raise their own cause. -/
def Obligations.FcuCommandsNeedTheFcu : Prop :=
  ∀ i : Instr, (i.needsFcu = true ↔ fieldOp (encode i) ∈ fcuOpcodes) ∧
    ∀ s : State, i.needsFcu = true →
      (s.cfg.hasFcu = false →
        ∃ t, exec i s = .next t ∧ Raises s t .illegalOp ∧ t.rsp = some ⟨0, true⟩ ∧ exec i s = command 0xE#72 s) ∧
      (s.cfg.hasFcu = true → ∃ t, exec i s = .next t ∧
        ((∃ d, Answers s t d) ∨ (i = .nxf64x2 ∧ s.cursor.val = 15 ∧ Raises s t .pairCross) ∨
          (i = .vwf64x2 15#4 ∧ Raises s t .viewRange)))

/-- R69: an instruction's mnemonic and operands assemble to it, and out-of-range, missing and extra operands are refused. Which
refusal is named where a wrong number of operands holds one out of range is the model's choice (log entry 16). -/
def Obligations.AssemblerInvertsDisassembler : Prop :=
  (∀ i : Instr, assembleOperands (disassemble i).1 (disassemble i).2 = .ok i) ∧
  (∀ n : Nat, 4294967295 < n → assembleOperands "INIT1".toList [n] = .error .seedRange) ∧
  (∀ n m : Nat, 4294967295 < n ∨ 4294967295 < m → assembleOperands "INIT2".toList [n, m] = .error .seedRange) ∧
  (∀ (m : List Char) (n : Nat), m ∈ ["VWU32".toList, "VWF32".toList, "VWF64".toList, "VWF64X2".toList] → 15 < n →
    assembleOperands m [n] = .error .indexRange) ∧
  (∀ (i : Instr) (ns : List Nat), ns.length ≠ (disassemble i).2.length →
    assembleOperands (disassemble i).1 ns = .error .operandCount)

/-- R70: `NEW` assembles as the source's constructors, by its number of operands, there is no longer form, and a mnemonic
that is neither `NEW` nor a command's is refused. That mnemonics are upper case, and that a wrong number of operands is
named before a range error, are the model's choices (log entry 16). -/
def Obligations.NewAssemblesAsTheConstructors : Prop :=
  assembleOperands "NEW".toList [] = assembleOperands "INITD".toList [] ∧
  (∀ n : Nat, assembleOperands "NEW".toList [n] = assembleOperands "INIT1".toList [n]) ∧
  (∀ n m : Nat, assembleOperands "NEW".toList [n, m] = assembleOperands "INIT2".toList [n, m]) ∧
  (∀ ns : List Nat, 3 ≤ ns.length → assembleOperands "NEW".toList ns = .error .operandCount) ∧
  ∀ (m : List Char) (ns : List Nat), m ≠ "NEW".toList → (∀ i : Instr, m ≠ (disassemble i).1) →
    assembleOperands m ns = .error .unknownMnemonic

/-! ### Running a command at the ports -/

/-- An edge at which the block accepts a word that decodes runs the decoded instruction; acceptance adds the record of the
state before, the drawn latency and commit edge, and the next draw, and uses up the host's sample (log entries 1 to 3). -/
def Obligations.StepRunsTheDecodedInstruction : Prop :=
  ∀ (s : State) (p : Pins) (ps : List Pins) (i : Instr),
    s.host = p :: ps → p.rst = false → p.cmdValid = true → s.rsp = none → decode p.cmdWord = .ok i →
    step s = exec i { s with
      host := ps, lanesBefore := s.lanes, errBefore := s.err,
      rspWait := Config.freeDelay s.draws % s.cfg.lat,
      commitWait := Config.freeCommit s.draws % (Config.freeDelay s.draws % s.cfg.lat + 2), draws := s.draws + 1 }

/-- R57: `cmd_ready` is 1 exactly when not busy and not in reset, and `busy` ends at the edge of the transfer. -/
def Obligations.ReadyExactlyWhenNotBusy : Prop :=
  ∀ s : State,
    (s.cmdReady = true ↔ s.busy = false ∧ s.pins.rst = false) ∧
    (s.busy = true → s.pins.rst = false →
      ∃ t, step s = .next t ∧ (t.busy = false ↔ s.rspValid = true ∧ s.pins.rspReady = true))

/-- R56: an edge makes an idle block busy exactly when it is not a reset edge and `cmd_valid` and `cmd_ready` are 1; the word
sampled there is the one executed, and a word at any other edge has no influence. That the state the step answers holds the
command's whole outcome at once, and what `begin` adds, are the model's choices (log entries 1 to 3). -/
def Obligations.CommandWordSampledOnlyAtAcceptance : Prop :=
  (∀ s : State, s.busy = false →
    ∃ t, step s = .next t ∧ (t.busy = true ↔ s.pins.rst = false ∧ s.pins.cmdValid = true ∧ s.cmdReady = true)) ∧
  (∀ s : State, s.cmdReady = true → s.pins.cmdValid = true →
    ∃ t, step s = .next t ∧ command s.pins.cmdWord s.popPins.begin = .next t) ∧
  (∀ (s : State) (p : Pins) (ps : List Pins) (w : CmdWord), s.host = p :: ps →
    ¬ (p.rst = false ∧ p.cmdValid = true ∧ s.cmdReady = true) →
    step s = step { s with host := { p with cmdWord := w } :: ps })

/-- R58: an accepted command has one response `r`, which becomes valid `d` cycles later, at least one and at most `LAT`; it
stays pending, valid from then on and the same, until the first edge at which the host is ready, however late, and exactly
there it is transferred. A command that returns no value answers 0. -/
def Obligations.ResponseRisesWithinLatAndIsHeld : Prop :=
  ∀ (s : State) (p : Pins) (ps : List Pins), s.rsp = none → s.host = p :: ps → p.rst = false → p.cmdValid = true →
    (∀ q ∈ ps, q.rst = false) →
    ∃ (d : Nat) (r : Response), 1 ≤ d ∧ d ≤ s.cfg.lat ∧
      (fieldOp p.cmdWord ∈ [0x2#4, 0x3#4, 0x4#4, 0x5#4] → r.data = 0) ∧
      ∀ k, 1 ≤ k → (∀ j, d ≤ j → j < k → (s.host.getD j Pins.idle).rspReady = false) →
        ∃ u v : State, core.run k s = .next u ∧ u.rsp = some r ∧ u.delivered = s.delivered ∧
          (u.rspValid = true ↔ d ≤ k) ∧ (d ≤ k → u.rspData = r.data ∧ u.rspErr = r.err) ∧
          step u = .next v ∧ (v.rsp = none ↔ d ≤ k ∧ (s.host.getD k Pins.idle).rspReady = true) ∧
          (v.rsp = none → v.delivered = s.delivered ++ [r])

/-- R58, R59: at the edge where response and host are both ready, exactly the response on the ports is delivered, after
those delivered before, and nothing of the block changes. That nothing changes there is the model's choice (log entry 2):
R72 lets the command commit at this very edge, and the fields of State hold its outcome from acceptance on. -/
def Obligations.TransferDeliversTheResponseOnThePorts : Prop :=
  ∀ s : State, s.rspValid = true → s.pins.rspReady = true →
    ∃ t, step s = .next t ∧ t.rsp = none ∧ t.delivered = s.delivered ++ [⟨s.rspData, s.rspErr⟩] ∧ SameBlock s t

/-- R115, R42: `buf_view` shows lane i on bits [32i+31:32i]; while a command is in flight a sample shows all 16 lanes as
before it or all 16 as after it. The last clause is the model's choice (log entries 2 and 3): the lanes hold the outcome from
acceptance on, and the record of the lanes before is that of the state the command was accepted in. -/
def Obligations.BufViewShowsTheLanes : Prop :=
  ∀ s : State,
    (s.busy = false → ∀ (i : Nat) (h : i < 16), s.bufView.extractLsb' (32 * i) 32 = s.lanes[i]) ∧
    (s.busy = true →
      (∀ (i : Nat) (h : i < 16), s.bufView.extractLsb' (32 * i) 32 = s.lanes[i]) ∨
      (∀ (i : Nat) (h : i < 16), s.bufView.extractLsb' (32 * i) 32 = s.lanesBefore[i])) ∧
    ∀ t, step s = .next t → t.busy = true →
      t.lanesBefore = (if s.busy then s.lanesBefore else s.lanes) ∧ (s.busy = true → t.lanes = s.lanes)

/-- R46: the ports never show part of a command: in a state with the invariant the lanes on `buf_view` and the level of `err` are
both from before it or both from after it. The second clause is the model's choice (log entries 2 and 3): the records of the
state before are those of the state the command was accepted in. -/
def Obligations.PortsShowWholeCommandsOnly : Prop :=
  ∀ s : State,
    (Inv s →
      (s.bufView = packLanes s.lanes ∧ s.errPort = s.err) ∨
      (s.busy = true ∧ s.bufView = packLanes s.lanesBefore ∧ s.errPort = s.errBefore)) ∧
    ∀ t, step s = .next t → t.busy = true →
      t.errBefore = (if s.busy then s.errBefore else s.err) ∧
      t.lanesBefore = (if s.busy then s.lanesBefore else s.lanes) ∧
      (s.busy = true → t.err = s.err ∧ t.lanes = s.lanes)

/-- R55, R141, R25, R72: `err` is the level of `ERR`. While no command is in flight it equals `ERR`; while one is, it is `ERR`
before the command until the commit edge and `ERR` after it from then on; the commit edge is no later than the first edge at
which `rsp_valid` is 1; and `err` falls at no edge but a reset edge. Where the commit edge lies up to that bound is free (log
entry 2). -/
def Obligations.ErrPortIsTheLevelOfErr : Prop :=
  ∀ s : State, Inv s →
    (s.busy = false → s.errPort = s.err) ∧
    (s.busy = true → s.errPort = if s.commitWait = 0 then s.err else s.errBefore) ∧
    ∀ t, step s = .next t → s.pins.rst = false →
      (s.rspValid = true → t.errPort = t.err ∧ t.err = s.err) ∧
      (s.busy = true → t.busy = true → s.commitWait = 0 → t.commitWait = 0) ∧
      (s.errPort = true → t.errPort = true)

/-! ### Reset -/

/-- R34, R35: the reset state holds the spec's values; the closed form and the numbers of the lanes are both the spec's own
derivation. -/
def Obligations.ResetStateHoldsTheSpecsValues : Prop :=
  (∀ (i : Nat) (h : i < 16), State.reset.lanes[i] = stepA^[i + 2] 0) ∧
  State.reset.lanes.toList =
    [0x5D36B172#32, 0x269CCE11#32, 0x54D51574#32, 0x129AD78B#32, 0x13267886#32, 0xBAD6CFD5#32, 0x84E24B28#32,
     0x4DABC56F#32, 0xE63B41DA#32, 0xB85DFAD9#32, 0x70D7751C#32, 0xAA8A8693#32, 0x1B79816E#32, 0xA343F31D#32,
     0x1062A750#32, 0xAEC3DEF7#32] ∧
  State.reset.cursor.val = 0 ∧ State.reset.err = false ∧ State.reset.errCause = .none ∧ State.reset.busy = false ∧
  State.reset.rspValid = false

/-- R150, R151: at every edge with `rst` the block is set to its reset state (the lanes are those INITD leaves), its ROMs and
constants apart; meanwhile it is not ready and shows no response, and a command in flight is discarded. -/
def Obligations.ResetEdgeSetsEveryPieceOfState : Prop :=
  ∀ s : State, s.pins.rst = true →
    s.cmdReady = false ∧ s.rspValid = false ∧
    ∃ t, step s = .next t ∧ (∀ u, exec .initd s = .next u → t.lanes = u.lanes) ∧ t.cursor.val = 0 ∧
      t.err = false ∧ t.errCause = .none ∧ t.busy = false ∧ t.rsp = none ∧ t.rom = s.rom ∧ t.cfg = s.cfg

/-- R152: INITD from a state without an error, in the invariant, leaves the lanes, the cursor and the status fields of the
reset state. -/
def Obligations.InitdLeavesTheResetState : Prop :=
  ∀ s : State, Inv s → s.err = false →
    ∃ t, exec .initd s = .next t ∧ t.lanes = State.reset.lanes ∧ t.cursor = State.reset.cursor ∧
      t.err = State.reset.err ∧ t.errCause = State.reset.errCause

/-! ### Seeding -/

/-- R75: the two seeding steps, in whole numbers. -/
def Obligations.SeedingStepsAreTheSpecsLcgSteps : Prop :=
  (∀ x : Word, (stepA x).toNat = (x.toNat * 2364742333 + 14567) % 2 ^ 32) ∧
  ∀ x : Word, (stepB x).toNat = (x.toNat * 4112992229 + 12345) % 2 ^ 32

/-- The inference R5 marks as derived: each seeding step is a bijection of the 32-bit values. -/
def Obligations.SeedingStepsAreBijective : Prop := Function.Bijective stepA ∧ Function.Bijective stepB

/-- R76: INIT1, the loop of its pseudocode lane by lane, with its encoding and its frame. -/
def Obligations.Init1SeedsEveryLane : Prop :=
  Encoded 0x3#4 (fun w => .init1 (fieldS1 w)) ∧
  ∀ (seed : Word) (s : State), ∃ t, exec (.init1 seed) s = .next t ∧
    t.lanes[0] = stepA (stepA seed) ∧ (∀ (i : Nat) (h : i < 15), t.lanes[i + 1] = stepA t.lanes[i]) ∧
    t.cursor.val = 0 ∧ Answers s t 0

/-- R78: INITD is exactly INIT1 with seed 0, with its encoding and its frame. -/
def Obligations.InitdIsInit1OfZero : Prop :=
  Encoded 0x2#4 (fun _ => .initd) ∧
  ∀ s : State, ∃ t, exec .initd s = .next t ∧ exec (.init1 0) s = .next t ∧
    t.lanes[0] = stepA (stepA 0) ∧ (∀ (i : Nat) (h : i < 15), t.lanes[i + 1] = stepA t.lanes[i]) ∧
    t.cursor.val = 0 ∧ Answers s t 0

/-- R77: INIT2, the loop of its pseudocode lane by lane, for both values of `INIT2_PRESTEP`, with its encoding and its
frame. -/
def Obligations.Init2InterleavesTwoSeeds : Prop :=
  Encoded 0x4#4 (fun w => .init2 (fieldS1 w) (fieldS2 w)) ∧
  ∀ (s1 s2 : Word) (s : State), ∃ t, exec (.init2 s1 s2) s = .next t ∧
    t.lanes[0] = stepA (if s.cfg.init2Prestep then stepA s1 else s1) ∧
    t.lanes[1] = stepB (if s.cfg.init2Prestep then stepB s2 else s2) ∧
    (∀ (k : Nat) (h : k < 7),
      t.lanes[2 * k + 2] = stepA t.lanes[2 * k] ∧ t.lanes[2 * k + 3] = stepB t.lanes[2 * k + 1]) ∧
    t.cursor.val = 0 ∧ Answers s t 0

/-- The closed forms that R76 and R77 mark as derived from their loops. -/
def Obligations.SeedingClosedForms : Prop :=
  (∀ (seed : Word) (s t : State), exec (.init1 seed) s = .next t →
    ∀ (i : Nat) (h : i < 16), t.lanes[i] = stepA^[i + 2] seed) ∧
  ∀ (s1 s2 : Word) (s t : State), exec (.init2 s1 s2) s = .next t →
    ∀ (k : Nat) (h : k < 8),
      t.lanes[2 * k] = stepA^[k + 1 + (if s.cfg.init2Prestep then 1 else 0)] s1 ∧
      t.lanes[2 * k + 1] = stepB^[k + 1 + (if s.cfg.init2Prestep then 1 else 0)] s2

/-- R81: exchanging two different seeds of INIT2 leaves different lanes. -/
def Obligations.Init2DependsOnSeedOrder : Prop :=
  ∀ (s1 s2 : Word) (s : State), s1 ≠ s2 →
    ∃ t u, exec (.init2 s1 s2) s = .next t ∧ exec (.init2 s2 s1) s = .next u ∧ t.lanes ≠ u.lanes

/-- R79: the lanes and the cursor after a seeding command depend on its operands, and for INIT2 on `INIT2_PRESTEP`, alone:
any two blocks end with the same. -/
def Obligations.SeedingReadsNeitherLanesNorCursor : Prop :=
  ∀ (i : Instr) (s s' : State), (∃ seed, i = .init1 seed) ∨ i = .initd ∨
      (∃ s1 s2, i = .init2 s1 s2 ∧ s.cfg.init2Prestep = s'.cfg.init2Prestep) →
    ∃ t t', exec i s = .next t ∧ exec i s' = .next t' ∧ SameBuffer t t'

/-- R80 for blocks that agree in ROMs and constants: seeded alike and sent the same commands, they answer alike, in a run
that records no fault (R139). -/
def Obligations.SameSeedAndCommandsGiveSameResponses : Prop :=
  ∀ (seed : Word) (ws : List CmdWord) (s s' t t' : State) (rs rs' : List Response),
    s.rom = s'.rom → s.cfg = s'.cfg → s.errCause = s'.errCause →
    runCommands (encode (.init1 seed) :: ws) s = some (rs, t) → NoFault t →
    runCommands (encode (.init1 seed) :: ws) s' = some (rs', t') → NoFault t' →
    rs = rs' ∧ SameBlock t t'

/-! ### Refill -/

/-- R87, R85: REFILL, in whole numbers, at every cursor value, with its encoding and its frame. -/
def Obligations.RefillStepsEveryLane : Prop :=
  Encoded 0x5#4 (fun _ => .refill) ∧
  ∀ s : State, ∃ t, exec .refill s = .next t ∧ Refilled s t ∧ t.cursor.val = 0 ∧ Answers s t 0

/-- R86: a MAC unit keeps the low 32 bits of the product and wraps the sum, and a lane's new value depends on no other lane
and no other lane's coefficients. -/
def Obligations.LanesNeverInteractInARefill : Prop :=
  (∀ x m c : Word, macUnit x m c = lcgStep x m c ∧
    (macUnit x m c).toNat = ((x.toNat * m.toNat) % 2 ^ 32 + c.toNat) % 2 ^ 32) ∧
  ∀ (s s' t t' : State) (i : Nat) (h : i < 16),
    s.lanes[i] = s'.lanes[i] → s.rom.mult[i] = s'.rom.mult[i] → s.rom.incr[i] = s'.rom.incr[i] →
    exec .refill s = .next t → exec .refill s' = .next t' → t.lanes[i] = t'.lanes[i]

/-- R92: from cursor 0, sixteen NXU32 read the sixteen lanes without a refill, and the seventeenth refills exactly once and
leaves the cursor at 1. -/
def Obligations.SeventeenthNxu32RefillsOnce : Prop :=
  ∀ s : State, s.cursor.val = 0 → NoFault s →
    ∃ rs t u, runCommands (List.replicate 16 (encode .nxu32)) s = some (rs, t) ∧ t.lanes = s.lanes ∧ t.cursor.val = 16 ∧
      (∀ (i : Nat) (h : i < 16), rs[i]? = some ⟨(fold s.lanes[i]).setWidth 64, false⟩) ∧
      command (encode .nxu32) t = .next u ∧ Refilled s u ∧ u.cursor.val = 1 ∧
      u.rsp = some ⟨(fold u.lanes[0]).setWidth 64, false⟩

/-- R20, R88: no command writes a lane but the seeding commands, REFILL, and an NX* command that starts at cursor 16, and
the last two write the refilled lanes. -/
def Obligations.LanesWrittenOnlyBySeedingAndRefill : Prop :=
  ∀ (i : Instr) (s t : State), exec i s = .next t →
    t.lanes = s.lanes ∨
    (i = .initd ∨ (∃ seed, i = .init1 seed) ∨ ∃ s1 s2, i = .init2 s1 s2) ∨
    (Refilled s t ∧ (i = .refill ∨
      (s.cursor.val = 16 ∧ (i = .nxu32 ∨ i = .nxf32 ∨ i = .nxf64 ∨ i = .nxf64x2))))

/-! ### The output stage -/

/-- R93: FOLD changes only the low byte, by the high byte, and is its own inverse. -/
def Obligations.FoldMixesHighByteIntoLowByte : Prop :=
  (∀ x : Word, fold x = x ^^^ (x >>> 24) ∧ (fold x).extractLsb' 8 24 = x.extractLsb' 8 24 ∧
    (fold x).extractLsb' 0 8 = x.extractLsb' 0 8 ^^^ x.extractLsb' 24 8 ∧ fold (fold x) = x) ∧
  Function.Bijective fold

/-- R94, R95, R96: the fields of the patterns the FCU builds. -/
def Obligations.FcuPatternFields : Prop :=
  (∀ x : Word, fcu32 x = 0x3F800000#32 ||| (x >>> 9) ∧ (fcu32 x).getLsbD 31 = false ∧
    (fcu32 x).extractLsb' 23 8 = 127#8 ∧ (fcu32 x).extractLsb' 0 23 = x.extractLsb' 9 23) ∧
  (∀ y : Word, fcu64 y = 0x3FF0000000000000#64 ||| (y.setWidth 64 <<< 20) ∧ (fcu64 y).getLsbD 63 = false ∧
    (fcu64 y).extractLsb' 52 11 = 1023#11 ∧ (fcu64 y).extractLsb' 20 32 = y ∧ (fcu64 y).extractLsb' 0 20 = 0) ∧
  (∀ v1 v2 : Word,
    fcu64x2 v1 v2 = 0x3FF0000000000000#64 ||| ((v1.setWidth 64 <<< 20) ^^^ (v2 >>> 4).setWidth 64) ∧
    (fcu64x2 v1 v2).getLsbD 63 = false ∧ (fcu64x2 v1 v2).extractLsb' 52 11 = 1023#11 ∧
    (fcu64x2 v1 v2).extractLsb' 28 24 = v1.extractLsb' 8 24 ∧
    (fcu64x2 v1 v2).extractLsb' 20 8 = v1.extractLsb' 0 8 ^^^ v2.extractLsb' 24 8 ∧
    (fcu64x2 v1 v2).extractLsb' 0 20 = v2.extractLsb' 4 20)

/-- R97: the numbers the patterns stand for. The field positions and the value formula are general knowledge (G1 to G3, log
entry 14). -/
def Obligations.FcuPatternValues : Prop :=
  (∀ x : Word, bitsF32 (fcu32 x) = some (1 + ((x >>> 9).toNat : ℚ) / 2 ^ 23)) ∧
  (∀ y : Word, bitsF64 (fcu64 y) = some (1 + (y.toNat : ℚ) / 2 ^ 32)) ∧
  ∀ v1 v2 : Word, (v1.toNat * 2 ^ 20) ^^^ (v2.toNat / 2 ^ 4) < 2 ^ 52 ∧
    bitsF64 (fcu64x2 v1 v2) = some (1 + (((v1.toNat * 2 ^ 20) ^^^ (v2.toNat / 2 ^ 4) : Nat) : ℚ) / 2 ^ 52)

/-- R104: every result of NXF32, NXF64 and NXF64X2 that carries no error is the pattern of a number in [1, 2). -/
def Obligations.FloatResultsLieInOneToTwo : Prop :=
  ∀ (s t : State) (d : DWord), t.rsp = some ⟨d, false⟩ →
    (exec .nxf32 s = .next t → d.toNat < 2 ^ 32 ∧ ∃ q, bitsF32 (d.setWidth 32) = some q ∧ 1 ≤ q ∧ q < 2) ∧
    (exec .nxf64 s = .next t ∨ exec .nxf64x2 s = .next t → ∃ q, bitsF64 d = some q ∧ 1 ≤ q ∧ q < 2)

/-! ### Extraction -/

/-- R99: NXU32, at every cursor value, with its encoding and its frame. -/
def Obligations.Nxu32ReturnsTheFoldedLane : Prop :=
  Encoded 0x6#4 (fun _ => .nxu32) ∧
  ∀ s : State, ∃ t, exec .nxu32 s = .next t ∧ ConsumesOne (fun x => (x ^^^ (x >>> 24)).setWidth 64) s t

/-- R100: NXF32, at every cursor value, with its encoding, its frame, and its exception. -/
def Obligations.Nxf32ReturnsTheRawLaneAsBinary32 : Prop :=
  Encoded 0x7#4 (fun _ => .nxf32) ∧ IllegalWithoutFcu .nxf32 ∧
  ∀ s : State, s.cfg.hasFcu = true →
    ∃ t, exec .nxf32 s = .next t ∧ ConsumesOne (fun x => (0x3F800000#32 ||| (x >>> 9)).setWidth 64) s t

/-- R101: NXF64, at every cursor value, with its encoding, its frame, and its exception. -/
def Obligations.Nxf64ReturnsTheFoldedLaneAsBinary64 : Prop :=
  Encoded 0x8#4 (fun _ => .nxf64) ∧ IllegalWithoutFcu .nxf64 ∧
  ∀ s : State, s.cfg.hasFcu = true →
    ∃ t, exec .nxf64 s = .next t ∧
      ConsumesOne (fun x => 0x3FF0000000000000#64 ||| ((x ^^^ (x >>> 24)).setWidth 64 <<< 20)) s t

/-- R102, R134: NXF64X2, at every cursor value, with its encoding, its frame, and its two exceptions; at cursor 15 no refill
happens and nothing is said of the response data, a free value. -/
def Obligations.Nxf64x2ReturnsTheRawPairAsBinary64 : Prop :=
  Encoded 0x9#4 (fun _ => .nxf64x2) ∧ IllegalWithoutFcu .nxf64x2 ∧
  (∀ s : State, s.cfg.hasFcu = true → s.cursor.val ≠ 15 →
    ∃ t, exec .nxf64x2 s = .next t ∧
      ConsumesTwo (fun v1 v2 =>
        0x3FF0000000000000#64 ||| ((v1.setWidth 64 <<< 20) ^^^ (v2 >>> 4).setWidth 64)) s t) ∧
  ∀ s : State, s.cfg.hasFcu = true → s.cursor.val = 15 → ∃ t, exec .nxf64x2 s = .next t ∧ Raises s t .pairCross

/-! ### Views -/

/-- R111: VWU32 at every index and every cursor, with its encoding and its frame. -/
def Obligations.Vwu32ReturnsTheRawLane : Prop :=
  Encoded 0xA#4 (fun w => .vwu32 (fieldIdx w)) ∧
  ∀ (i : Nat) (h : i < 16) (s : State), ∃ t, exec (.vwu32 (BitVec.ofNat 4 i)) s = .next t ∧ SameBuffer s t ∧
    Answers s t (s.lanes[i].setWidth 64)

/-- R112: VWF32 at every index, with its encoding, its frame, and its exception. -/
def Obligations.Vwf32ReturnsTheRawLaneAsBinary32 : Prop :=
  Encoded 0xB#4 (fun w => .vwf32 (fieldIdx w)) ∧ (∀ idx, IllegalWithoutFcu (.vwf32 idx)) ∧
  ∀ (i : Nat) (h : i < 16) (s : State), s.cfg.hasFcu = true →
    ∃ t, exec (.vwf32 (BitVec.ofNat 4 i)) s = .next t ∧ SameBuffer s t ∧
      Answers s t ((0x3F800000#32 ||| (s.lanes[i] >>> 9)).setWidth 64)

/-- R113: VWF64 at every index, with its encoding, its frame, and its exception: the lane is folded. -/
def Obligations.Vwf64ReturnsTheFoldedLaneAsBinary64 : Prop :=
  Encoded 0xC#4 (fun w => .vwf64 (fieldIdx w)) ∧ (∀ idx, IllegalWithoutFcu (.vwf64 idx)) ∧
  ∀ (i : Nat) (h : i < 16) (s : State), s.cfg.hasFcu = true →
    ∃ t, exec (.vwf64 (BitVec.ofNat 4 i)) s = .next t ∧ SameBuffer s t ∧
      Answers s t (0x3FF0000000000000#64 ||| ((s.lanes[i] ^^^ (s.lanes[i] >>> 24)).setWidth 64 <<< 20))

/-- R114, R135: VWF64X2 at every index, with its encoding, its frame, and its two exceptions: neither lane is folded; at index
15 nothing is said of the response data, a free value. -/
def Obligations.Vwf64x2ReturnsTheRawPairAsBinary64 : Prop :=
  Encoded 0xD#4 (fun w => .vwf64x2 (fieldIdx w)) ∧ (∀ idx, IllegalWithoutFcu (.vwf64x2 idx)) ∧
  (∀ (i : Nat) (h : i < 15) (s : State), s.cfg.hasFcu = true →
    ∃ t, exec (.vwf64x2 (BitVec.ofNat 4 i)) s = .next t ∧ SameBuffer s t ∧
      Answers s t (0x3FF0000000000000#64 ||| ((s.lanes[i].setWidth 64 <<< 20) ^^^ (s.lanes[i + 1] >>> 4).setWidth 64))) ∧
  ∀ s : State, s.cfg.hasFcu = true → ∃ t, exec (.vwf64x2 15#4) s = .next t ∧ Raises s t .viewRange

/-- R116: after a REFILL, each view returns what the consecutive extraction of the same lanes would return from that state,
in a run that records no fault (R139). -/
def Obligations.ViewsAgreeWithExtractionAfterRefill : Prop :=
  ∀ s u : State, exec .refill u = .next s → s.cfg.hasFcu = true → NoFault s →
    (∀ (i : Nat) (h : i < 16), ∃ rs t v, runCommands (List.replicate (i + 1) (encode .nxf32)) s = some (rs, t) ∧
      exec (.vwf32 (BitVec.ofNat 4 i)) s = .next v ∧ v.rsp.isSome = true ∧ rs[i]? = v.rsp) ∧
    (∀ (i : Nat) (h : i < 16), ∃ rs t v, runCommands (List.replicate (i + 1) (encode .nxu32)) s = some (rs, t) ∧
      exec (.vwu32 (BitVec.ofNat 4 i)) s = .next v ∧ v.rsp = some ⟨s.lanes[i].setWidth 64, false⟩ ∧
      rs[i]? = some ⟨(fold s.lanes[i]).setWidth 64, false⟩) ∧
    (∀ (i : Nat) (h : i < 16), ∃ rs t v, runCommands (List.replicate (i + 1) (encode .nxf64)) s = some (rs, t) ∧
      exec (.vwf64 (BitVec.ofNat 4 i)) s = .next v ∧ v.rsp.isSome = true ∧ rs[i]? = v.rsp) ∧
    (∀ (k : Nat) (h : k < 8), ∃ rs t v, runCommands (List.replicate (k + 1) (encode .nxf64x2)) s = some (rs, t) ∧
      exec (.vwf64x2 (BitVec.ofNat 4 (2 * k))) s = .next v ∧ v.rsp.isSome = true ∧ rs[k]? = v.rsp)

/-- R47, R110: views, STATUS and INFO change no lane and no cursor, and repeating one that raised no error gives the same
response. -/
def Obligations.ReadOnlyCommandsAreIdempotent : Prop :=
  ∀ (i : Instr) (s t : State), ReadOnly i → exec i s = .next t →
    SameBuffer s t ∧ SameElsewhere s t ∧
    (t.rsp.map Response.err = some false → t.err = s.err ∧ t.errCause = s.errCause ∧
      ∃ u, exec i t = .next u ∧ u.rsp = t.rsp)

/-! ### Status and information -/

/-- R123: every field of the STATUS response, with the command's encoding and its frame. -/
def Obligations.StatusReturnsEveryField : Prop :=
  Encoded 0x0#4 (fun _ => .status) ∧
  ∀ s : State, ∃ t d, exec .status s = .next t ∧ SameBuffer s t ∧ Answers s t d ∧
    (d.extractLsb' 0 5).toNat = s.cursor.val ∧ d.extractLsb' 5 3 = 0 ∧ d.getLsbD 8 = s.err ∧
    (d.extractLsb' 9 3).toNat = (match s.errCause with
      | .none => 0
      | .illegalOp => 1
      | .pairCross => 2
      | .viewRange => 3) ∧
    d.extractLsb' 12 4 = 0 ∧ d.getLsbD 16 = s.cfg.hasFcu ∧ d.getLsbD 17 = s.cfg.init2Prestep ∧ d.extractLsb' 18 46 = 0

/-- R124: the INFO response as a number, with the command's encoding and its frame. -/
def Obligations.InfoReturnsTheConstants : Prop :=
  Encoded 0x1#4 (fun _ => .info) ∧
  ∀ s : State, ∃ t d, exec .info s = .next t ∧ SameBuffer s t ∧ Answers s t d ∧
    d.toNat = s.cfg.versionId.toNat * 2 ^ 32 + 32 * 2 ^ 8 + 16

/-! ### Errors and the whole machine -/

/-- R131, R136: the cause of every command word in every state, the codes of the causes, and the error action. -/
def Obligations.ErrorCauseOfEveryCommandWord : Prop :=
  (ErrCause.none.code = 0 ∧ ErrCause.illegalOp.code = 1 ∧ ErrCause.pairCross.code = 2 ∧ ErrCause.viewRange.code = 3) ∧
  ∀ (w : CmdWord) (s : State), ∃ t, command w s = .next t ∧
    (causeOf w s = .none → ∃ d, Answers s t d) ∧ (causeOf w s ≠ .none → Raises s t (causeOf w s))

/-- R130: a command the block has, sent by a host that keeps R156 and R157, never fails. -/
def Obligations.ContractKeepingHostSeesNoError : Prop :=
  ∀ (i : Instr) (s : State), i.wellFormed s.cfg.hasFcu = true → HostKeeps i s = true →
    ∃ t d, exec i s = .next t ∧ Answers s t d

/-- R136, R137, R143: once set, `ERR` and the first cause stay until a reset, whatever the host does. -/
def Obligations.ErrorIsStickyUntilReset : Prop :=
  ∀ s : State, s.err = true → s.pins.rst = false →
    ∃ t, step s = .next t ∧ t.err = true ∧ t.errCause = s.errCause

/-- R138, one command later, the spec's own choice after an error (D29; log entry 9), on which R139 lets no claim about a run
rely: a failing command leaves the next command the lanes and the cursor it would have had without it and the same success
or failure; and where that command answers without error, the same response, but that a STATUS shows `ERR` and `ERR_CAUSE`
as the failing command may have left them. -/
def Obligations.FailingCommandLeavesTheNextOneAlone : Prop :=
  ∀ (w w' : CmdWord) (s t u v : State), command w s = .next t → t.rsp.map Response.err = some true →
    command w' s = .next u → command w' t = .next v →
    SameBuffer u v ∧ v.rsp.map Response.err = u.rsp.map Response.err ∧
    (u.rsp.map Response.err = some false → fieldOp w' ≠ 0x0#4 ∨ s.err = true → v.rsp = u.rsp)

/-- R28, R29, R31: no step writes a ROM or a constant. -/
def Obligations.RomsAndConstantsNeverChange : Prop :=
  ∀ s : State, ∃ t, step s = .next t ∧ t.rom = s.rom ∧ t.cfg = s.cfg

/-- The reset state has the invariant. -/
def Obligations.ResetHasTheInvariant : Prop := Inv State.reset

/-- R26, R137, R58, R72, R46: every step, a reset edge included, keeps the invariant: ERR_CAUSE is NONE exactly while ERR is 0,
ERR is 1 exactly when a response since reset carried the error bit, a pending response is valid within LAT, and a command
in flight clears no ERR, commits by the first edge at which `rsp_valid` is 1, and changes the lanes or ERR, never both. That
ERR and ERR_CAUSE count the command in flight from acceptance on is the model's choice (log entry 2). -/
def Obligations.EveryStepKeepsTheInvariant : Prop := ∀ s t : State, Inv s → step s = .next t → Inv t

/-- R49, R59, R162: however a host that asserts no reset drives its pins, the responses it has got and the one pending are
those of some of its command words executed one at a time in its order, and the block holds what they leave, in a run that
records no fault (R139). That the block holds the outcome of the command in flight already while its response is pending is
the model's choice (log entry 2): R52 and R72 leave it uncommitted up to the first edge at which `rsp_valid` is 1. -/
def Obligations.AnyHostRunIsACommandSequence : Prop :=
  ∀ (s u : State) (k : Nat), s.rsp = none → (∀ p ∈ s.host, p.rst = false) → core.run k s = .next u → NoFault u →
    ∃ (ws : List CmdWord) (rs : List Response) (t : State),
      ws.Sublist ((s.host.filter Pins.cmdValid).map Pins.cmdWord) ∧ runCommands ws s = some (rs, t) ∧
      u.delivered ++ u.rsp.toList = s.delivered ++ rs ∧ SameBlock t u

/-- R58, R162: a host that waits `LAT` edges for each response gets every response of its command sequence, in order, and
the run ends with what the sequence leaves, in a run that records no fault (R139). -/
def Obligations.PatientHostGetsEveryResponse : Prop :=
  ∀ (ws : List CmdWord) (s t : State) (rs : List Response), s.rsp = none →
    s.host = ws.flatMap (patient s.cfg.lat) → runCommands ws s = some (rs, t) → NoFault t →
    ∃ u : State, core.run s.host.length s = .next u ∧ Ended u ∧ SameBlock t u ∧
      (observe u).responses = (observe s).responses ++ rs
end

