-- ==== Sys2Proof/Tests/Slice0.lean ====
section
/-! SUPPORT. The model's own tests: values written out in 95_test_vectors.md (its section is named in each comment), the
WellFormed smoke, and one witness for each statement that has hypotheses. -/

namespace Sys2Proof.Tests

open Sys2Proof.Machine Sys2Proof.Safety Sys2Proof.Claims

/-! ### Helpers -/

/-- The test ROM TC1 (95_test_vectors.md section 2). -/
def tc1Rom : Rom where
  mult := Vector.ofFn fun i => BitVec.ofNat 32 (0x01000193 + 4 * i.val)
  incr := Vector.ofFn fun i => BitVec.ofNat 32 (2 * i.val + 1)

/-- The reset state with TC1, the FCU, no prestep, `VERSION_ID` 0 and `LAT` 4. -/
def tc1 : State := { State.reset with rom := tc1Rom, cfg := ⟨true, false, 0, 3⟩ }

/-- The same without the FCU. -/
def noFcu : State := { tc1 with cfg := ⟨false, false, 0, 3⟩ }

/-- `tc1` with cursor `c`. -/
def cursorAt (c : Fin 17) : State := { tc1 with cursor := c }

/-- `tc1` with what the host drives. -/
def driven (ps : List Pins) : State := { tc1 with host := ps }

/-- The response of a word, and the cursor and the status fields after it. -/
def ran (w : CmdWord) (s : State) : Option (DWord × Nat × Bool × ErrCause) :=
  match command w s with
  | .next t =>
    match t.rsp with
    | some ⟨d, false⟩ => some (d, t.cursor.val, t.err, t.errCause)
    | _ => none
  | _ => none

/-- Cursor and status fields after a word whose response has its error bit. -/
def failed (w : CmdWord) (s : State) : Option (Nat × Bool × ErrCause) :=
  match command w s with
  | .next t => if t.rsp.map Response.err = some true then some (t.cursor.val, t.err, t.errCause) else none
  | _ => none

/-- Lane `i` after a word. -/
def laneAfter (w : CmdWord) (s : State) (i : Fin 16) : Option Word :=
  match command w s with
  | .next t => some t.lanes[i.val]
  | _ => none

/-- A reserved opcode in flight: `rsp_valid` is 1 for the first time, the coming edge is its commit edge. -/
def failing : State :=
  { tc1 with err := true, errCause := .illegalOp, rsp := some ⟨0, true⟩, commitWait := 1 }

/-! ### WellFormed smoke: each instruction the check refuses -/

theorem test_wellFormed_refuses :
    Instr.wellFormed false .nxf32 = false ∧ Instr.wellFormed false .nxf64 = false ∧
    Instr.wellFormed false .nxf64x2 = false ∧ Instr.wellFormed false (.vwf32 0) = false ∧
    Instr.wellFormed false (.vwf64 0) = false ∧ Instr.wellFormed false (.vwf64x2 0) = false := by decide

theorem test_wellFormed_accepts :
    Instr.wellFormed false .nxu32 = true ∧ Instr.wellFormed false (.vwu32 15) = true ∧
    Instr.wellFormed false (.init2 0 0) = true ∧ Instr.wellFormed true .nxf64x2 = true := by decide

/-! ### Decoding, words written out from 30_encoding.md R60 and R64 -/

theorem test_decode_status_family : decode 0b0000#72 = .ok .status ∧ decode 0b0001#72 = .ok .info := by decide

/-- Sections 3.1 and 3.2. -/
theorem test_decode_seeding :
    decode 0b0010#72 = .ok .initd ∧ decode 0x000000001234567803#72 = .ok (.init1 0x12345678#32) ∧
    decode 0x000000010000000204#72 = .ok (.init2 2#32 1#32) ∧
    decode 0xFFFFFFFF0000000193#72 = .ok (.init1 1#32) := by decide

theorem test_decode_refill : decode 0b0101#72 = .ok .refill := by decide

theorem test_decode_extract :
    decode 0b0110#72 = .ok .nxu32 ∧ decode 0b0111#72 = .ok .nxf32 ∧ decode 0b1000#72 = .ok .nxf64 ∧
    decode 0b1001#72 = .ok .nxf64x2 ∧ decode 0x00001234ABCDEF0156#72 = .ok .nxu32 := by decide

/-- Section 7: `IDX` is the second digit. -/
theorem test_decode_view :
    decode 0b11111010#72 = .ok (.vwu32 15#4) ∧ decode 0b00101011#72 = .ok (.vwf32 2#4) ∧
    decode 0b00011100#72 = .ok (.vwf64 1#4) ∧ decode 0b11101101#72 = .ok (.vwf64x2 14#4) := by decide

/-- R66. -/
theorem test_decode_reserved :
    decode 0b1110#72 = .error (.reservedOpcode 0xE#4) ∧ decode 0b1111#72 = .error (.reservedOpcode 0xF#4) := by decide

/-- Sections 3 and 7. -/
theorem test_encode :
    encode (.init1 0xFFFFFFFF#32) = 0x00000000FFFFFFFF03#72 ∧ encode (.init2 1#32 2#32) = 0x000000020000000104#72 ∧
    encode (.vwf64x2 14#4) = 0x0000000000000000ED#72 ∧ encode .nxf64x2 = 0x000000000000000009#72 := by decide

/-! ### The datapath -/

/-- Section 4.2. -/
theorem test_step_wraps :
    macUnit 0x5D36B172#32 0x01000193#32 1#32 = 0x2F195677#32 ∧
    macUnit 0xFFFFFFFF#32 0xFFFFFFFF#32 0xFFFFFFFF#32 = 0#32 ∧ stepA 0x000038E7#32 = 0x5D36B172#32 := by decide

/-- Section 5.1. -/
theorem test_fold :
    fold 0x01000000#32 = 0x01000001#32 ∧ fold 0xFFFFFF00#32 = 0xFFFFFFFF#32 ∧ fold 0xDEADBEEF#32 = 0xDEADBE31#32 := by
  decide

/-- Section 5.1. -/
theorem test_fcu_single :
    fcu32 0x000001FF#32 = 0x3F800000#32 ∧ fcu32 0x80000000#32 = 0x3FC00000#32 ∧ fcu32 0xFFFFFFFF#32 = 0x3FFFFFFF#32 ∧
    fcu64 (fold 0xFFFFFF00#32) = 0x3FFFFFFFFFF00000#64 := by decide

/-- Section 5.2. -/
theorem test_fcu_pair :
    fcu64x2 0xFFFFFFFF#32 0#32 = 0x3FFFFFFFFFF00000#64 ∧ fcu64x2 0xFFFFFFFF#32 0xFFFFFFFF#32 = 0x3FFFFFFFF00FFFFF#64 ∧
    fcu64x2 0x12345678#32 0x9ABCDEF0#32 = 0x3FF123456E2BCDEF#64 := by decide

/-! ### One step per instruction -/

/-- Section 8: cursor 16; cursor 15 after PAIR_CROSS. -/
theorem test_status :
    ran 0x0#72 (cursorAt 16) = some (0x10010#64, 16, false, .none) ∧
    ran 0x0#72 { cursorAt 15 with err := true, errCause := .pairCross } = some (0x1050F#64, 15, true, .pairCross) := by
  decide

/-- Section 8. -/
theorem test_status_constants :
    ran 0x0#72 { noFcu with err := true, errCause := .illegalOp, cursor := 1 } = some (0x301#64, 1, true, .illegalOp) ∧
    ran 0x0#72 { tc1 with cfg := ⟨true, true, 0, 0⟩ } = some (0x30000#64, 0, false, .none) := by decide

/-- Section 8. -/
theorem test_info : ran 0x1#72 (cursorAt 5) = some (0x2010#64, 5, false, .none) := by decide

/-- Section 3.1. -/
theorem test_initd : ran 0x2#72 (cursorAt 9) = some (0, 0, false, .none) ∧
    laneAfter 0x2#72 { tc1 with lanes := Vector.replicate 16 0 } 15 = some 0xAEC3DEF7#32 := by decide

/-- Section 3.1. -/
theorem test_init1 :
    laneAfter 0x000000000000000103#72 tc1 0 = some 0xDACFA0FB#32 ∧
    laneAfter 0x000000000000000103#72 tc1 15 = some 0xD9F18FF4#32 := by decide

/-- Section 3.1: unused fields set. -/
theorem test_init1_unused_fields : laneAfter 0xFFFFFFFF0000000193#72 tc1 0 = some 0xDACFA0FB#32 := by decide

/-- Section 3.2, `INIT2_PRESTEP` 0. -/
theorem test_init2 :
    laneAfter 0x000000020000000104#72 tc1 0 = some 0x8CF353A4#32 ∧
    laneAfter 0x000000020000000104#72 tc1 1 = some 0xEA4EC003#32 ∧
    laneAfter 0x000000020000000104#72 tc1 15 = some 0x3F4CFDFA#32 := by decide

/-- Section 3.2, `INIT2_PRESTEP` 1. -/
theorem test_init2_prestep :
    laneAfter 0x000000020000000104#72 { tc1 with cfg := ⟨true, true, 0, 0⟩ } 0 = some 0xDACFA0FB#32 ∧
    laneAfter 0x000000020000000104#72 { tc1 with cfg := ⟨true, true, 0, 0⟩ } 15 = some 0xED65B6DB#32 := by decide

/-- Section 4.1. -/
theorem test_refill :
    ran 0x5#72 (cursorAt 7) = some (0, 0, false, .none) ∧ laneAfter 0x5#72 tc1 0 = some 0x2F195677#32 ∧
    laneAfter 0x5#72 tc1 15 = some 0x0B4040D8#32 := by decide

/-- Section 6.2: rows 1 and 2. -/
theorem test_nxu32 :
    ran 0x6#72 tc1 = some (0x5D36B12F#64, 1, false, .none) ∧
    ran 0x6#72 (cursorAt 15) = some (0xAEC3DE59#64, 16, false, .none) := by decide

/-- Section 6.2: the refill first. -/
theorem test_nxu32_refills : ran 0x6#72 (cursorAt 16) = some (0x2F195658#64, 1, false, .none) := by decide

/-- Section 6.1. -/
theorem test_nxf32 :
    ran 0x7#72 tc1 = some (0x3FAE9B58#64, 1, false, .none) ∧
    ran 0x7#72 (cursorAt 15) = some (0x3FD761EF#64, 16, false, .none) := by decide

/-- Section 9. -/
theorem test_nxf32_without_fcu : failed 0x7#72 noFcu = some (0, true, .illegalOp) := by decide

/-- Section 6.1. -/
theorem test_nxf64 :
    ran 0x8#72 tc1 = some (0x3FF5D36B12F00000#64, 1, false, .none) ∧
    ran 0x8#72 (cursorAt 14) = some (0x3FF1062A74000000#64, 15, false, .none) := by decide

/-- Section 6.2: cursor 14, and cursor 16 with its refill. -/
theorem test_nxf64x2 :
    ran 0x9#72 (cursorAt 14) = some (0x3FF1062A7FEC3DEF#64, 16, false, .none) ∧
    ran 0x9#72 (cursorAt 16) = some (0x3FF2F1956034B9D0#64, 2, false, .none) := by decide

/-- Section 6.2: PAIR_CROSS, and ILLEGAL_OP before it without the FCU. -/
theorem test_nxf64x2_crossing :
    failed 0x9#72 (cursorAt 15) = some (15, true, .pairCross) ∧
    failed 0x9#72 { noFcu with cursor := 15 } = some (15, true, .illegalOp) := by decide

/-- Sections 6.2 and 7: raw, also at cursor 16. -/
theorem test_vwu32 :
    ran 0x0A#72 tc1 = some (0x5D36B172#64, 0, false, .none) ∧
    ran 0xFA#72 (cursorAt 16) = some (0xAEC3DEF7#64, 16, false, .none) := by decide

/-- Sections 6.2 and 7. -/
theorem test_vwf32 : ran 0x0B#72 (cursorAt 16) = some (0x3FAE9B58#64, 16, false, .none) := by decide

/-- Section 7: folded. -/
theorem test_vwf64 : ran 0x1C#72 tc1 = some (0x3FF269CCE3700000#64, 0, false, .none) := by decide

/-- Section 7. -/
theorem test_vwf64x2 :
    ran 0x0D#72 tc1 = some (0x3FF5D36B1549CCE1#64, 0, false, .none) ∧
    ran 0xED#72 tc1 = some (0x3FF1062A7FEC3DEF#64, 0, false, .none) := by decide

/-- Section 7: VIEW_RANGE. -/
theorem test_vwf64x2_range : failed 0xFD#72 tc1 = some (0, true, .viewRange) := by decide

/-- Section 9: reserved opcodes, and the first cause kept. -/
theorem test_reserved_opcode :
    failed 0xE#72 (cursorAt 3) = some (3, true, .illegalOp) ∧
    failed 0xE#72 { tc1 with err := true, errCause := .viewRange } = some (0, true, .viewRange) := by decide

/-! ### Ports, steps and the assembler -/

/-- Section 7: `buf_view` in the reset state. -/
theorem test_buf_view :
    tc1.bufView.extractLsb' 0 32 = 0x5D36B172#32 ∧ tc1.bufView.extractLsb' 32 32 = 0x269CCE11#32 ∧
    tc1.bufView.extractLsb' 480 32 = 0xAEC3DEF7#32 := by decide +kernel

/-- A step after reset accepts and runs the table's word, whatever the block's parameters. -/
theorem test_withFetchWord :
    (match step (State.reset.withFetchWord 8 0xFA) with
      | .next t => t.rsp
      | _ => none) = some ⟨0xAEC3DEF7#64, false⟩ := by decide

/-- R151: a reset edge discards a command in flight and clears `ERR`. -/
theorem test_reset_edge :
    (match step { driven [⟨true, true, 5, true⟩] with err := true, errCause := .pairCross, rsp := some ⟨7, true⟩ } with
      | .next t => some (t.rsp, t.err, t.errCause)
      | _ => none) = some (none, false, .none) := by decide

/-- The forms of R69, a comment, and `NEW` of R70 (section 3.1). -/
theorem test_assembler :
    assembleWord "INIT2 1, 2 ; two seeds".toList = .ok (some 0x000000020000000104#72) ∧
    assembleWord "NEW 0x38E7".toList = .ok (some 0x00000000000038E703#72) ∧
    assembleWord "VWF64X2 14".toList = .ok (some 0xED#72) := by decide

/-- R69: what the assembler refuses. -/
theorem test_assembler_refuses :
    assembleWord "INIT1 4294967296".toList = .error .seedRange ∧ assembleWord "VWU32 16".toList = .error .indexRange ∧
    assembleWord "INIT2 1".toList = .error .operandCount ∧ assembleWord "NXU32 1".toList = .error .operandCount ∧
    assembleWord "RSV".toList = .error .unknownMnemonic := by decide

/-- R72 and R141: a failing command in flight shows the old `ERR` before its commit edge and the new one after it. -/
theorem test_err_port :
    failing.errPort = false ∧
    (match step failing with
      | .next t => some (t.busy, t.errPort)
      | _ => none) = some (true, true) := by decide

/-! ### Witnesses: the hypotheses of the statements can be met -/

theorem tc1_inv : Inv tc1 := ⟨by decide, by decide, by decide, by decide, by decide, by decide⟩

theorem reset_inv : Inv State.reset :=
  ⟨by decide, by decide, nofun, by decide, nofun, nofun⟩

theorem witness_UnusedFieldsAreIgnored :
    (fieldOp 0xFFFFFFFF0000000193#72 = fieldOp 0x000000000000000103#72 ∧
      (fieldOp 0xFFFFFFFF0000000193#72 ∈ [0xA#4, 0xB#4, 0xC#4, 0xD#4] →
        fieldIdx 0xFFFFFFFF0000000193#72 = fieldIdx 0x000000000000000103#72) ∧
      (fieldOp 0xFFFFFFFF0000000193#72 ∈ [0x3#4, 0x4#4] →
        fieldS1 0xFFFFFFFF0000000193#72 = fieldS1 0x000000000000000103#72) ∧
      (fieldOp 0xFFFFFFFF0000000193#72 = 0x4#4 →
        fieldS2 0xFFFFFFFF0000000193#72 = fieldS2 0x000000000000000103#72)) ∧
    fieldOp (encode (.init1 0)) ∉ [0xA#4, 0xB#4, 0xC#4, 0xD#4] ∧ fieldOp (encode .status) ∉ [0x3#4, 0x4#4] ∧
    fieldOp (encode (.init1 0)) ≠ 0x4#4 := by decide

theorem witness_ExactlyFourteenOpcodesDecode : decode 0xD#72 = .ok (.vwf64x2 0) ∧ (fieldOp 0xD#72).toNat < 14 ∧
    ¬ (fieldOp 0xE#72).toNat < 14 := by decide

theorem witness_ReservedOpcodeRaisesIllegalOp : fieldOp 0xE#72 = 0xE#4 ∧ fieldOp 0xF#72 = 0xF#4 := by decide

theorem witness_FcuCommandsNeedTheFcu :
    Instr.needsFcu .nxf32 = true ∧ Instr.needsFcu .nxf64x2 = true ∧ noFcu.cfg.hasFcu = false ∧ tc1.cfg.hasFcu = true := by
  decide

theorem witness_AssemblerInvertsDisassembler :
    4294967295 < 4294967296 ∧ "VWF64X2".toList ∈ ["VWU32".toList, "VWF32".toList, "VWF64".toList, "VWF64X2".toList] ∧
    15 < 16 ∧ [1].length ≠ (disassemble (.init2 0 0)).2.length := by decide

theorem witness_NewAssemblesAsTheConstructors :
    3 ≤ [0, 0, 0].length ∧ "RSV".toList ≠ "NEW".toList ∧ ∀ i : Instr, "RSV".toList ≠ (disassemble i).1 :=
  ⟨by decide, by decide, fun i => match i with
    | .status => (by decide : "RSV".toList ≠ "STATUS".toList)
    | .info => (by decide : "RSV".toList ≠ "INFO".toList)
    | .initd => (by decide : "RSV".toList ≠ "INITD".toList)
    | .init1 _ => (by decide : "RSV".toList ≠ "INIT1".toList)
    | .init2 _ _ => (by decide : "RSV".toList ≠ "INIT2".toList)
    | .refill => (by decide : "RSV".toList ≠ "REFILL".toList)
    | .nxu32 => (by decide : "RSV".toList ≠ "NXU32".toList)
    | .nxf32 => (by decide : "RSV".toList ≠ "NXF32".toList)
    | .nxf64 => (by decide : "RSV".toList ≠ "NXF64".toList)
    | .nxf64x2 => (by decide : "RSV".toList ≠ "NXF64X2".toList)
    | .vwu32 _ => (by decide : "RSV".toList ≠ "VWU32".toList)
    | .vwf32 _ => (by decide : "RSV".toList ≠ "VWF32".toList)
    | .vwf64 _ => (by decide : "RSV".toList ≠ "VWF64".toList)
    | .vwf64x2 _ => (by decide : "RSV".toList ≠ "VWF64X2".toList)⟩

/-- An accepted VWU32 15. -/
theorem witness_StepRunsTheDecodedInstruction :
    (driven [⟨false, true, 0xFA#72, false⟩]).host = [⟨false, true, 0xFA#72, false⟩] ∧
    (driven [⟨false, true, 0xFA#72, false⟩]).rsp = none ∧ decode 0xFA#72 = .ok (.vwu32 15#4) := by decide

theorem witness_ReadyExactlyWhenNotBusy :
    { tc1 with rsp := some ⟨0, false⟩ }.busy = true ∧ { tc1 with rsp := some ⟨0, false⟩ }.pins.rst = false := by decide

theorem witness_CommandWordSampledOnlyAtAcceptance :
    tc1.busy = false ∧ (driven [⟨false, true, 0x5#72, false⟩]).cmdReady = true ∧
    (driven [⟨false, true, 0x5#72, false⟩]).pins.cmdValid = true ∧
    ¬ ((⟨true, true, 0x5#72, false⟩ : Pins).rst = false ∧ (⟨true, true, 0x5#72, false⟩ : Pins).cmdValid = true ∧
      (driven [⟨true, true, 0x5#72, false⟩]).cmdReady = true) ∧
    ¬ ((⟨false, false, 0x5#72, false⟩ : Pins).rst = false ∧ (⟨false, false, 0x5#72, false⟩ : Pins).cmdValid = true ∧
      (driven [⟨false, false, 0x5#72, false⟩]).cmdReady = true) := by decide

/-- A REFILL accepted, and a host that is never ready, so that the inner premise holds for every `k`. -/
theorem witness_ResponseRisesWithinLatAndIsHeld :
    ((driven [⟨false, true, 0x5#72, false⟩]).rsp = none ∧
      (driven [⟨false, true, 0x5#72, false⟩]).host = ⟨false, true, 0x5#72, false⟩ :: [] ∧
      (∀ q ∈ ([] : List Pins), q.rst = false) ∧ fieldOp 0x5#72 ∈ [0x2#4, 0x3#4, 0x4#4, 0x5#4]) ∧
    ∀ j, ((driven [⟨false, true, 0x5#72, false⟩]).host.getD j Pins.idle).rspReady = false :=
  ⟨by decide, fun j => by cases j <;> rfl⟩

theorem witness_TransferDeliversTheResponseOnThePorts :
    { driven [⟨false, false, 0, true⟩] with rsp := some ⟨7, false⟩ }.rspValid = true ∧
    { driven [⟨false, false, 0, true⟩] with rsp := some ⟨7, false⟩ }.pins.rspReady = true := by decide

/-- An idle block that accepts a REFILL, and a busy block that waits. -/
theorem witness_BufViewShowsTheLanes :
    (tc1.busy = false ∧ ∃ t, step (driven [⟨false, true, 0x5#72, false⟩]) = .next t ∧ t.busy = true) ∧
    { tc1 with rsp := some ⟨0, false⟩, rspWait := 1 }.busy = true ∧
    ∃ t, step { tc1 with rsp := some ⟨0, false⟩, rspWait := 1 } = .next t ∧ t.busy = true :=
  ⟨⟨rfl, _, rfl, rfl⟩, rfl, _, rfl, rfl⟩

theorem failing_inv : Inv failing := ⟨by decide, by decide, by decide, by decide, by decide, by decide⟩

theorem witness_PortsShowWholeCommandsOnly :
    Inv failing ∧ (∃ t, step (driven [⟨false, true, 0x5#72, false⟩]) = .next t ∧ t.busy = true) ∧
    ∃ t, step { tc1 with rsp := some ⟨0, false⟩, rspWait := 0 } = .next t ∧ t.busy = true :=
  ⟨failing_inv, ⟨_, rfl, rfl⟩, _, rfl, rfl⟩

/-- The response held and taken, before and after the commit edge; an idle block; and `err` at 1. -/
theorem witness_ErrPortIsTheLevelOfErr :
    (Inv failing ∧ failing.busy = true ∧ failing.rspValid = true ∧ failing.pins.rst = false ∧ failing.commitWait ≠ 0 ∧
      ∃ t, step failing = .next t ∧ t.busy = true ∧ t.commitWait = 0 ∧ t.errPort = true) ∧
    Inv tc1 ∧ tc1.busy = false ∧ tc1.pins.rst = false ∧ ∃ t, step tc1 = .next t :=
  ⟨⟨failing_inv, rfl, by decide, rfl, by decide, _, rfl, rfl, rfl, by decide⟩, tc1_inv, rfl, rfl, _, rfl⟩

theorem witness_ResetEdgeSetsEveryPieceOfState : (driven [⟨true, false, 0, false⟩]).pins.rst = true := by decide

theorem witness_InitdLeavesTheResetState : Inv tc1 ∧ tc1.err = false := ⟨tc1_inv, rfl⟩

theorem witness_Init1SeedsEveryLane : fieldOp 0x000000000000000103#72 = 0x3#4 ∧ 0 < 15 ∧ 14 < 15 := by decide

theorem witness_SeedingClosedForms :
    (∃ t, exec (.init1 1) tc1 = .next t) ∧ (∃ t, exec (.init2 1 2) tc1 = .next t) ∧ 15 < 16 ∧ 7 < 8 :=
  ⟨⟨_, rfl⟩, ⟨_, rfl⟩, by decide, by decide⟩

theorem witness_Init2DependsOnSeedOrder : (1#32 : Word) ≠ 2#32 := by decide

theorem witness_SeedingReadsNeitherLanesNorCursor :
    ((∃ seed, Instr.init1 0 = .init1 seed) ∨ Instr.init1 0 = .initd ∨
      (∃ s1 s2, Instr.init1 0 = .init2 s1 s2 ∧ tc1.cfg.init2Prestep = noFcu.cfg.init2Prestep)) ∧
    ∃ s1 s2, Instr.init2 1 2 = .init2 s1 s2 ∧ tc1.cfg.init2Prestep = noFcu.cfg.init2Prestep :=
  ⟨.inl ⟨_, rfl⟩, 1, 2, rfl, rfl⟩

/-- Two blocks with different lanes and cursors, seeded alike and then asked for their status. -/
theorem witness_SameSeedAndCommandsGiveSameResponses :
    tc1.rom = (cursorAt 9).rom ∧ tc1.cfg = (cursorAt 9).cfg ∧ tc1.errCause = (cursorAt 9).errCause ∧
    (∃ rs t, runCommands (encode (.init1 7) :: [encode .status]) tc1 = some (rs, t) ∧ NoFault t) ∧
    ∃ rs t, runCommands (encode (.init1 7) :: [encode .status]) (cursorAt 9) = some (rs, t) ∧ NoFault t :=
  ⟨rfl, rfl, rfl, ⟨_, _, rfl, rfl⟩, _, _, rfl, rfl⟩

theorem witness_LanesNeverInteractInARefill :
    tc1.lanes[15] = (cursorAt 16).lanes[15] ∧ tc1.rom.mult[15] = (cursorAt 16).rom.mult[15] ∧
    tc1.rom.incr[15] = (cursorAt 16).rom.incr[15] ∧ (∃ t, exec .refill tc1 = .next t) ∧
    ∃ t, exec .refill (cursorAt 16) = .next t :=
  ⟨rfl, rfl, rfl, ⟨_, rfl⟩, _, rfl⟩

theorem witness_SeventeenthNxu32RefillsOnce : tc1.cursor.val = 0 ∧ NoFault tc1 := by decide

theorem witness_LanesWrittenOnlyBySeedingAndRefill :
    (∃ t, exec .status tc1 = .next t) ∧ ∃ t, exec .nxu32 (cursorAt 16) = .next t := ⟨⟨_, rfl⟩, _, rfl⟩

theorem witness_FloatResultsLieInOneToTwo :
    (∃ t d, exec .nxf32 tc1 = .next t ∧ t.rsp = some ⟨d, false⟩) ∧
    (∃ t d, exec .nxf64 (cursorAt 16) = .next t ∧ t.rsp = some ⟨d, false⟩) ∧
    ∃ t d, exec .nxf64x2 (cursorAt 14) = .next t ∧ t.rsp = some ⟨d, false⟩ :=
  ⟨⟨_, _, rfl, rfl⟩, ⟨_, _, rfl, rfl⟩, _, _, rfl, rfl⟩

/-- Both cases of the single-lane extractions, at the values where they meet. -/
theorem witness_ConsumesOne :
    tc1.cfg.hasFcu = true ∧ noFcu.cfg.hasFcu = false ∧ (cursorAt 0).cursor.val < 16 ∧ (cursorAt 15).cursor.val < 16 ∧
    ¬ (cursorAt 15).cursor.val = 16 ∧ (cursorAt 16).cursor.val = 16 ∧ ¬ (cursorAt 16).cursor.val < 16 := by decide

/-- The three cases of NXF64X2, at the values where they meet. -/
theorem witness_Nxf64x2ReturnsTheRawPairAsBinary64 :
    (cursorAt 14).cfg.hasFcu = true ∧ (cursorAt 14).cursor.val ≠ 15 ∧ (cursorAt 14).cursor.val < 15 ∧
    (cursorAt 16).cursor.val ≠ 15 ∧ (cursorAt 16).cursor.val = 16 ∧ (cursorAt 15).cursor.val = 15 ∧
    noFcu.cfg.hasFcu = false := by decide

/-- The views: the first and the last index of each range, with and without the FCU. -/
theorem witness_views :
    0 < 16 ∧ 15 < 16 ∧ 14 < 15 ∧ tc1.cfg.hasFcu = true ∧ noFcu.cfg.hasFcu = false ∧
    fieldOp 0xFD#72 = 0xD#4 ∧ fieldOp 0x1C#72 = 0xC#4 ∧ fieldOp 0x0B#72 = 0xB#4 ∧ fieldOp 0xFA#72 = 0xA#4 := by decide

/-- The opcode premise of the `Encoded` clauses of the other commands. -/
theorem witness_Encoded :
    fieldOp 0x0#72 = 0x0#4 ∧ fieldOp 0x1#72 = 0x1#4 ∧ fieldOp 0x2#72 = 0x2#4 ∧ fieldOp 0x000000020000000104#72 = 0x4#4 ∧
    fieldOp 0x5#72 = 0x5#4 ∧ fieldOp 0x00001234ABCDEF0156#72 = 0x6#4 ∧ fieldOp 0x7#72 = 0x7#4 ∧
    fieldOp 0x8#72 = 0x8#4 ∧ fieldOp 0x9#72 = 0x9#4 := by decide

theorem witness_ViewsAgreeWithExtractionAfterRefill :
    (∃ s, exec .refill (cursorAt 16) = .next s ∧ s.cfg.hasFcu = true ∧ NoFault s) ∧ 15 < 16 ∧ 7 < 8 :=
  ⟨⟨_, rfl, rfl, rfl⟩, by decide, by decide⟩

theorem witness_ReadOnlyCommandsAreIdempotent :
    ReadOnly .status ∧ ReadOnly (.vwf64x2 14) ∧
    (∃ t, exec .status tc1 = .next t ∧ t.rsp.map Response.err = some false) ∧
    ∃ t, exec (.vwf64x2 14) tc1 = .next t ∧ t.rsp.map Response.err = some false :=
  ⟨.inl rfl, .inr (.inr ⟨14, .inr (.inr (.inr rfl))⟩), ⟨_, rfl, rfl⟩, _, rfl, rfl⟩

/-- Each cause of the table of R131 by a word and a state. -/
theorem witness_ErrorCauseOfEveryCommandWord :
    causeOf 0x6#72 tc1 = .none ∧ causeOf 0xE#72 tc1 = .illegalOp ∧ causeOf 0x9#72 { noFcu with cursor := 15 } = .illegalOp ∧
    causeOf 0x9#72 (cursorAt 15) = .pairCross ∧ causeOf 0x9#72 (cursorAt 16) = .none ∧
    causeOf 0xFD#72 tc1 = .viewRange ∧ causeOf 0xED#72 tc1 = .none := by decide

theorem witness_ContractKeepingHostSeesNoError :
    Instr.wellFormed tc1.cfg.hasFcu (.vwf64x2 14) = true ∧ HostKeeps (.vwf64x2 14) tc1 = true ∧
    Instr.wellFormed tc1.cfg.hasFcu .nxf64x2 = true ∧ HostKeeps .nxf64x2 (cursorAt 16) = true := by decide

theorem witness_ErrorIsStickyUntilReset :
    { tc1 with err := true, errCause := .viewRange }.err = true ∧
    { tc1 with err := true, errCause := .viewRange }.pins.rst = false := by decide

/-- PAIR_CROSS and then NXU32. -/
theorem witness_FailingCommandLeavesTheNextOneAlone :
    ∃ t u v, command 0x9#72 (cursorAt 15) = .next t ∧ t.rsp.map Response.err = some true ∧
      command 0x6#72 (cursorAt 15) = .next u ∧ command 0x6#72 t = .next v ∧ u.rsp.map Response.err = some false ∧
      fieldOp 0x6#72 ≠ 0x0#4 :=
  ⟨_, _, _, rfl, rfl, rfl, rfl, rfl, by decide⟩

theorem witness_EveryStepKeepsTheInvariant : Inv tc1 ∧ ∃ t, step tc1 = .next t := ⟨tc1_inv, _, rfl⟩

theorem witness_AnyHostRunIsACommandSequence :
    (driven [⟨false, true, 0x6#72, true⟩]).rsp = none ∧
    (∀ p ∈ (driven [⟨false, true, 0x6#72, true⟩]).host, p.rst = false) ∧
    ∃ u : State, core.run 1 (driven [⟨false, true, 0x6#72, true⟩]) = .next u ∧ NoFault u :=
  ⟨rfl, by decide, _, rfl, rfl⟩

theorem witness_PatientHostGetsEveryResponse :
    (driven ([0x6#72].flatMap (patient 4))).rsp = none ∧
    (driven ([0x6#72].flatMap (patient 4))).host =
      [0x6#72].flatMap (patient (driven ([0x6#72].flatMap (patient 4))).cfg.lat) ∧
    ∃ rs t, runCommands [0x6#72] (driven ([0x6#72].flatMap (patient 4))) = some (rs, t) ∧ NoFault t :=
  ⟨rfl, rfl, _, _, rfl, rfl⟩

end Sys2Proof.Tests
end

section
/-! PROOFS. The fields of the command word and of an encoding, the opcode table of the decoder, and the life of a command in
flight from its acceptance to the transfer of its response (30_encoding.md R57, R58, R60 to R66). -/

namespace Sys2Proof.Proofs

open Sys2Proof.Machine Sys2Proof.Safety Sys2Proof.Claims
open Sys2Proof.Laws.EncodedFields (fieldOp_commandWord)

/-! ### The command word and its fields (R60) -/

/-- Appending words is adding them at their places. -/
theorem toNat_append_eq_add {m n : Nat} (x : BitVec m) (y : BitVec n) :
    (x ++ y).toNat = x.toNat * 2 ^ n + y.toNat := by
  rw [BitVec.toNat_append, ← Nat.shiftLeft_add_eq_or_of_lt y.isLt, Nat.shiftLeft_eq]

theorem commandWord_toNat (s2 s1 : Word) (idx op : BitVec 4) :
    (commandWord s2 s1 idx op).toNat = s2.toNat * 2 ^ 40 + s1.toNat * 2 ^ 8 + idx.toNat * 2 ^ 4 + op.toNat := by
  simp only [commandWord, toNat_append_eq_add]
  omega

@[simp] theorem fieldIdx_commandWord (s2 s1 : Word) (idx op : BitVec 4) : fieldIdx (commandWord s2 s1 idx op) = idx := by
  rw [fieldIdx, commandWord, BitVec.extractLsb'_append_eq_of_le (by decide)]
  exact BitVec.extractLsb'_append_eq_right

@[simp] theorem fieldS1_commandWord (s2 s1 : Word) (idx op : BitVec 4) : fieldS1 (commandWord s2 s1 idx op) = s1 := by
  rw [fieldS1, commandWord, BitVec.extractLsb'_append_eq_of_le (by decide), BitVec.extractLsb'_append_eq_of_le (by decide)]
  exact BitVec.extractLsb'_append_eq_right

@[simp] theorem fieldS2_commandWord (s2 s1 : Word) (idx op : BitVec 4) : fieldS2 (commandWord s2 s1 idx op) = s2 := by
  rw [fieldS2, commandWord, BitVec.extractLsb'_append_eq_of_le (by decide), BitVec.extractLsb'_append_eq_of_le (by decide)]
  exact BitVec.extractLsb'_append_eq_left

/-- The four fields are adjacent and cover the word. -/
theorem commandWord_fields (w : CmdWord) : commandWord (fieldS2 w) (fieldS1 w) (fieldIdx w) (fieldOp w) = w := by
  rw [commandWord, fieldS2, fieldS1, fieldIdx, fieldOp,
    BitVec.extractLsb'_append_extractLsb'_eq_extractLsb' (by decide),
    BitVec.extractLsb'_append_extractLsb'_eq_extractLsb' (by decide),
    BitVec.extractLsb'_append_extractLsb'_eq_extractLsb' (by decide)]
  exact BitVec.extractLsb'_eq_self

/-- Settles O3: the sum comes from the places of the fields, the fields read back, and they cover the word. -/
theorem commandWordIsTheSumOfItsFields : Obligations.CommandWordIsTheSumOfItsFields :=
  ⟨fun s2 s1 idx op => ⟨commandWord_toNat s2 s1 idx op, fieldS2_commandWord s2 s1 idx op,
    fieldS1_commandWord s2 s1 idx op, fieldIdx_commandWord s2 s1 idx op, fieldOp_commandWord s2 s1 idx op⟩,
    commandWord_fields⟩

/-! ### The opcode table of the decoder (R64), and unused fields (R62) -/

theorem encoded_status : Encoded 0x0#4 fun _ => .status := fun w h => by simp [decode, h]
theorem encoded_info : Encoded 0x1#4 fun _ => .info := fun w h => by simp [decode, h]
theorem encoded_initd : Encoded 0x2#4 fun _ => .initd := fun w h => by simp [decode, h]
theorem encoded_init1 : Encoded 0x3#4 fun w => .init1 (fieldS1 w) := fun w h => by simp [decode, h]
theorem encoded_init2 : Encoded 0x4#4 fun w => .init2 (fieldS1 w) (fieldS2 w) := fun w h => by simp [decode, h]
theorem encoded_refill : Encoded 0x5#4 fun _ => .refill := fun w h => by simp [decode, h]
theorem encoded_nxu32 : Encoded 0x6#4 fun _ => .nxu32 := fun w h => by simp [decode, h]
theorem encoded_nxf32 : Encoded 0x7#4 fun _ => .nxf32 := fun w h => by simp [decode, h]
theorem encoded_nxf64 : Encoded 0x8#4 fun _ => .nxf64 := fun w h => by simp [decode, h]
theorem encoded_nxf64x2 : Encoded 0x9#4 fun _ => .nxf64x2 := fun w h => by simp [decode, h]
theorem encoded_vwu32 : Encoded 0xA#4 fun w => .vwu32 (fieldIdx w) := fun w h => by simp [decode, h]
theorem encoded_vwf32 : Encoded 0xB#4 fun w => .vwf32 (fieldIdx w) := fun w h => by simp [decode, h]
theorem encoded_vwf64 : Encoded 0xC#4 fun w => .vwf64 (fieldIdx w) := fun w h => by simp [decode, h]
theorem encoded_vwf64x2 : Encoded 0xD#4 fun w => .vwf64x2 (fieldIdx w) := fun w h => by simp [decode, h]

theorem decode_of_reserved {w : CmdWord} (h : fieldOp w = 0xE#4 ∨ fieldOp w = 0xF#4) :
    decode w = .error (.reservedOpcode (fieldOp w)) := by
  rcases h with h | h <;> simp [decode, h]

theorem eq_ofNat_of_toNat_eq {m n : Nat} {x : BitVec m} (h : x.toNat = n) : x = BitVec.ofNat m n := by
  rw [← h, BitVec.ofNat_toNat, BitVec.setWidth_eq]

/-- The decoder reads the opcode, and of the other fields only those the opcode uses. -/
theorem decode_congr {w w' : CmdWord} (hop : fieldOp w = fieldOp w')
    (hidx : fieldOp w ∈ [0xA#4, 0xB#4, 0xC#4, 0xD#4] → fieldIdx w = fieldIdx w')
    (hs1 : fieldOp w ∈ [0x3#4, 0x4#4] → fieldS1 w = fieldS1 w')
    (hs2 : fieldOp w = 0x4#4 → fieldS2 w = fieldS2 w') : decode w = decode w' := by
  unfold decode
  rw [← hop]
  split
  case h_4 h => rw [hs1 (by simp [eq_ofNat_of_toNat_eq h])]
  case h_5 h => rw [hs1 (by simp [eq_ofNat_of_toNat_eq h]), hs2 (eq_ofNat_of_toNat_eq h)]
  case h_11 h | h_12 h | h_13 h | h_14 h => rw [hidx (by simp [eq_ofNat_of_toNat_eq h])]
  all_goals rfl

theorem command_congr {w w' : CmdWord} (h : decode w = decode w') (s : State) : command w s = command w' s := by
  rw [command, command, h]

theorem command_of_decode {w : CmdWord} {i : Instr} (h : decode w = .ok i) (s : State) : command w s = exec i s := by
  rw [command, h]

theorem command_of_reserved {w : CmdWord} (h : fieldOp w = 0xE#4 ∨ fieldOp w = 0xF#4) (s : State) :
    command w s = .next s.illegalOp := by
  rw [command, decode_of_reserved h]

/-- The encoder writes 0 in every field the command's opcode does not use. -/
theorem encode_unused_fields (i : Instr) :
    (fieldOp (encode i) ∉ [0xA#4, 0xB#4, 0xC#4, 0xD#4] → fieldIdx (encode i) = 0) ∧
    (fieldOp (encode i) ∉ [0x3#4, 0x4#4] → fieldS1 (encode i) = 0) ∧
    (fieldOp (encode i) ≠ 0x4#4 → fieldS2 (encode i) = 0) := by
  cases i <;> simp [encode, fieldOp_commandWord]

/-- Settles O4: words that agree on the used fields decode alike, so they do alike. -/
theorem unusedFieldsAreIgnored : Obligations.UnusedFieldsAreIgnored :=
  ⟨fun _ _ s hop hidx hs1 hs2 => command_congr (decode_congr hop hidx hs1 hs2) s, encode_unused_fields⟩

/-- Settles O6: the error action of ILLEGAL_OP, on every state. -/
theorem reservedOpcodeRaisesIllegalOp : Obligations.ReservedOpcodeRaisesIllegalOp :=
  fun _ s h => ⟨s.illegalOp, command_of_reserved h s, s.illegalOp_raises, rfl⟩

/-! ### Edges of a busy block, and `cmd_ready` (R57) -/

theorem busy_eq_true_iff (s : State) : s.busy = true ↔ ∃ r, s.rsp = some r := by
  rw [State.busy, Option.isSome_iff_exists]

theorem cmdReady_eq_true_iff (s : State) : s.cmdReady = true ↔ s.busy = false ∧ s.pins.rst = false := by
  simp [State.cmdReady]

theorem rspValid_eq_true_iff (s : State) :
    s.rspValid = true ↔ s.busy = true ∧ s.rspWait = 0 ∧ s.pins.rst = false := by
  simp [State.rspValid, and_assoc]

/-- While `rsp_valid` is 1 the ports show the pending response. -/
theorem ports_of_rspValid {s : State} {r : Response} (hr : s.rsp = some r) (hv : s.rspValid = true) :
    s.rspData = r.data ∧ s.rspErr = r.err := by
  simp [State.rspData, State.rspErr, hr, hv]

/-- Without reset, the pending response is transferred at an edge where it is valid and the host is ready. -/
theorem step_transfer {s : State} {r : Response} (hr : s.rsp = some r) (hrst : s.pins.rst = false)
    (h : s.rspWait = 0 ∧ s.pins.rspReady = true) : step s = .next (s.popPins.transfer r) := by
  simp [step, edge, hr, hrst, h]

/-- Without reset, a pending response waits at every other edge. -/
theorem step_wait {s : State} {r : Response} (hr : s.rsp = some r) (hrst : s.pins.rst = false)
    (h : ¬ (s.rspWait = 0 ∧ s.pins.rspReady = true)) : step s = .next s.popPins.waitEdge := by
  simp [step, edge, hr, hrst, h]

/-- An idle block that is offered a word without reset executes it whole. -/
theorem step_accept {s : State} (hr : s.rsp = none) (hrst : s.pins.rst = false) (hv : s.pins.cmdValid = true) :
    step s = command s.pins.cmdWord s.popPins.begin := by
  simp [step, edge, hr, hrst, hv]

/-- Settles O11: an edge of a busy block transfers or waits, and only the transfer ends `busy`. -/
theorem readyExactlyWhenNotBusy : Obligations.ReadyExactlyWhenNotBusy := by
  intro s
  refine ⟨cmdReady_eq_true_iff s, fun hb hrst => ?_⟩
  obtain ⟨r, hr⟩ := (busy_eq_true_iff s).mp hb
  have valid : s.rspValid = true ↔ s.rspWait = 0 := by simp [rspValid_eq_true_iff, hb, hrst]
  rw [valid]
  by_cases h : s.rspWait = 0 ∧ s.pins.rspReady = true
  · exact ⟨_, step_transfer hr hrst h, by simp [State.busy, h]⟩
  · exact ⟨_, step_wait hr hrst h, by simp [State.busy, hr, h]⟩

/-! ### A command in flight (R58) -/

/-- Every command leaves a response pending, and touches nothing of the handshake. -/
theorem command_rsp (w : CmdWord) (s : State) :
    ∃ t r, command w s = .next t ∧ t.rsp = some r ∧ SameElsewhere s t := by
  obtain ⟨t, ht, ⟨d, hd⟩ | ⟨k, _, hk⟩⟩ := command_effect w s
  · exact ⟨t, _, ht, hd.rsp, hd.elsewhere⟩
  · obtain ⟨r, hr, _⟩ := Option.map_eq_some_iff.mp hk.rspErr
    exact ⟨t, r, ht, hr, hk.elsewhere⟩

/-- INITD, INIT1, INIT2 and REFILL return no value: their response is data 0 without error (R63). -/
theorem command_rsp_of_no_value {w : CmdWord} {s : State} (hop : fieldOp w ∈ [0x2#4, 0x3#4, 0x4#4, 0x5#4]) :
    ∃ t, command w s = .next t ∧ t.rsp = some ⟨0, false⟩ := by
  simp only [List.mem_cons, List.not_mem_nil, or_false] at hop
  rcases hop with h | h | h | h
  · exact ⟨_, command_of_decode (encoded_initd w h) s, rfl⟩
  · exact ⟨_, command_of_decode (encoded_init1 w h) s, rfl⟩
  · exact ⟨_, command_of_decode (encoded_init2 w h) s, rfl⟩
  · exact ⟨_, command_of_decode (encoded_refill w h) s, rfl⟩

/-- `u` is reached by `k` edges from `s`, the first of which accepted a command: its response `r` is pending and becomes
valid `d` edges after `s`, nothing was delivered meanwhile, and the host has used up `k` samples. -/
structure InFlight (s : State) (r : Response) (d k : Nat) (u : State) : Prop where
  rsp : u.rsp = some r
  rspWait : u.rspWait = d - k
  delivered : u.delivered = s.delivered
  host : u.host = s.host.drop k

section
variable {s u : State} {r : Response} {d k : Nat}

/-- The host drives at the next edge its sample number `k`. -/
theorem InFlight.pins (h : InFlight s r d k u) : u.pins = s.host.getD k Pins.idle := by
  rw [State.pins, h.host, List.headD_eq_head?_getD, List.head?_drop, List.getD_eq_getElem?_getD]

theorem InFlight.rspWait_eq_zero_iff (h : InFlight s r d k u) : u.rspWait = 0 ↔ d ≤ k := by
  rw [h.rspWait, Nat.sub_eq_zero_iff_le]

theorem InFlight.rspValid_iff (h : InFlight s r d k u) (hrst : u.pins.rst = false) : u.rspValid = true ↔ d ≤ k := by
  rw [rspValid_eq_true_iff, h.rspWait_eq_zero_iff]
  simp [State.busy, h.rsp, hrst]

/-- An edge at which the response is not taken keeps the command in flight. -/
theorem InFlight.wait (h : InFlight s r d k u) (hrst : u.pins.rst = false) (hw : ¬ (d ≤ k ∧ u.pins.rspReady = true)) :
    ∃ v, step u = .next v ∧ InFlight s r d (k + 1) v :=
  ⟨_, step_wait h.rsp hrst (by rwa [h.rspWait_eq_zero_iff]),
    { rsp := h.rsp
      rspWait := by simp [h.rspWait, Nat.sub_sub]
      delivered := h.delivered
      host := by simp [h.host] }⟩

/-- The next edge takes the response exactly if it is valid and the host is ready, and delivers it then. -/
theorem InFlight.next (h : InFlight s r d k u) (hrst : u.pins.rst = false) :
    ∃ v, step u = .next v ∧ (v.rsp = none ↔ d ≤ k ∧ u.pins.rspReady = true) ∧
      (v.rsp = none → v.delivered = s.delivered ++ [r]) := by
  by_cases hw : d ≤ k ∧ u.pins.rspReady = true
  · refine ⟨_, step_transfer h.rsp hrst (by rwa [h.rspWait_eq_zero_iff]), by simp [hw], fun _ => ?_⟩
    simp [h.delivered]
  · obtain ⟨v, hv, hfl⟩ := h.wait hrst hw
    exact ⟨v, hv, by simp [hfl.rsp, hw], by simp [hfl.rsp]⟩

/-- The command stays in flight as long as its response is not taken. -/
theorem run_inFlight {t : State} (ht : step s = .next t) (h1 : InFlight s r d 1 t)
    (hrst : ∀ j, 1 ≤ j → (s.host.getD j Pins.idle).rst = false) (hk : 1 ≤ k)
    (hready : ∀ j, d ≤ j → j < k → (s.host.getD j Pins.idle).rspReady = false) :
    ∃ u : State, core.run k s = .next u ∧ InFlight s r d k u := by
  induction k, hk using Nat.le_induction with
  | base => exact ⟨t, run_succ core 0 s t ht, h1⟩
  | succ k hk ih =>
    obtain ⟨u, hu, hfl⟩ := ih fun j hd hj => hready j hd (hj.trans k.lt_succ_self)
    have notTaken : ¬ (d ≤ k ∧ u.pins.rspReady = true) := fun ⟨hd, hy⟩ => by
      rw [hfl.pins, hready k hd k.lt_succ_self] at hy
      cases hy
    obtain ⟨v, hv, hfl'⟩ := hfl.wait (hfl.pins ▸ hrst k hk) notTaken
    exact ⟨v, run_snoc core k s u v hu hv, hfl'⟩

end

/-- The edges from acceptance to `rsp_valid`: the free latency, reduced to R58's window of 1 to `LAT`. -/
def acceptedDelay (s : State) : Nat := Config.freeDelay s.draws % s.cfg.lat + 1

theorem acceptedDelay_le_lat (s : State) : acceptedDelay s ≤ s.cfg.lat :=
  Nat.mod_lt _ s.cfg.latMinusOne.succ_pos

/-- Acceptance puts one response in flight. -/
theorem accept_inFlight {s : State} (hr : s.rsp = none) (hrst : s.pins.rst = false) (hv : s.pins.cmdValid = true) :
    ∃ t r, step s = .next t ∧ InFlight s r (acceptedDelay s) 1 t ∧
      (fieldOp s.pins.cmdWord ∈ [0x2#4, 0x3#4, 0x4#4, 0x5#4] → r.data = 0) := by
  obtain ⟨t, r, ht, htr, same⟩ := command_rsp s.pins.cmdWord s.popPins.begin
  refine ⟨t, r, (step_accept hr hrst hv).trans ht, ⟨htr, same.rspWait, same.delivered, ?_⟩, fun hop => ?_⟩
  · rw [same.host, List.drop_one]; rfl
  · obtain ⟨t', ht', ht'r⟩ := command_rsp_of_no_value (s := s.popPins.begin) hop
    obtain rfl := Host.Outcome.next.inj (ht.symm.trans ht')
    rw [Option.some.inj (htr.symm.trans ht'r)]

/-- A host that asserts no reset in its list asserts none after it either. -/
theorem rst_getD_cons {p : Pins} {ps : List Pins} (h : ∀ q ∈ ps, q.rst = false) {j : Nat} (hj : 1 ≤ j) :
    ((p :: ps).getD j Pins.idle).rst = false := by
  obtain ⟨j, rfl⟩ := Nat.exists_eq_add_of_le' hj
  rw [List.getD_cons_succ]
  rcases Nat.lt_or_ge j ps.length with hlt | hge
  · rw [List.getD_eq_getElem _ _ hlt]; exact h _ (List.getElem_mem hlt)
  · rw [List.getD_eq_default _ _ hge]; rfl

/-- Settles O13: acceptance puts the command in flight, which lasts until the first edge at which its response is valid and
the host ready. -/
theorem responseRisesWithinLatAndIsHeld : Obligations.ResponseRisesWithinLatAndIsHeld := by
  intro s p ps hr hhost hrst hv hps
  have hpins : s.pins = p := by rw [State.pins, hhost]; rfl
  have noReset : ∀ j, 1 ≤ j → (s.host.getD j Pins.idle).rst = false := fun j hj => hhost ▸ rst_getD_cons hps hj
  obtain ⟨t, r, ht, hfl1, hdata⟩ := accept_inFlight hr (by rw [hpins, hrst]) (by rw [hpins, hv])
  refine ⟨acceptedDelay s, r, Nat.le_add_left 1 _, acceptedDelay_le_lat s, hpins ▸ hdata, fun k hk hready => ?_⟩
  obtain ⟨u, hu, hfl⟩ := run_inFlight ht hfl1 noReset hk hready
  have hurst : u.pins.rst = false := hfl.pins ▸ noReset k hk
  obtain ⟨v, hstep, htaken, hdel⟩ := hfl.next hurst
  have hvalid := hfl.rspValid_iff hurst
  exact ⟨u, v, hu, hfl.rsp, hfl.delivered, hvalid, fun hd => ports_of_rspValid hfl.rsp (hvalid.mpr hd), hstep,
    hfl.pins ▸ htaken, hdel⟩

end Sys2Proof.Proofs
end

section
/-! PROOFS. The seeding commands: the two steps in whole numbers, and the lanes the seeding loops leave (40_seeding.md R75 to
R78). -/

namespace Sys2Proof.Proofs

open Sys2Proof.Machine Sys2Proof.Safety Sys2Proof.Claims

/-! ### The seeding steps in whole numbers (R75) -/

theorem stepA_toNat (x : Word) : (stepA x).toNat = (x.toNat * 2364742333 + 14567) % 2 ^ 32 :=
  lcgStep_toNat x 2364742333#32 14567#32

theorem stepB_toNat (x : Word) : (stepB x).toNat = (x.toNat * 4112992229 + 12345) % 2 ^ 32 :=
  lcgStep_toNat x 4112992229#32 12345#32

/-- Settles O21: both steps are `STEP`, whose value in whole numbers is known, at their own constants. -/
theorem seedingStepsAreTheSpecsLcgSteps : Obligations.SeedingStepsAreTheSpecsLcgSteps :=
  ⟨stepA_toNat, stepB_toNat⟩

/-! ### The seeding loops, lane by lane (R76, R77) -/

theorem loopOutput_zero (f : Word → Word) (w : Word) : loopOutput f 0 w = f w := rfl

/-- The loop stores what it stored one iteration before, stepped once. -/
theorem loopOutput_succ (f : Word → Word) (k : Nat) (w : Word) : loopOutput f (k + 1) w = f (loopOutput f k w) := by
  rw [loopOutput_eq_iterate, loopOutput_eq_iterate, Function.iterate_succ_apply']

theorem seedOne_first (s : Word) : (seedOne s)[0] = stepA (stepA s) := by
  rw [getElem_seedOne, loopOutput_zero]

theorem seedOne_next (s : Word) (i : Nat) (h : i < 15) : (seedOne s)[i + 1] = stepA (seedOne s)[i] := by
  rw [getElem_seedOne, getElem_seedOne, loopOutput_succ]

section
variable (p : Bool) (s1 s2 : Word)

theorem seedTwo_first_even : (seedTwo p s1 s2)[0] = stepA (if p then stepA s1 else s1) :=
  getElem_seedTwo_even p s1 s2 0 (by decide)

theorem seedTwo_first_odd : (seedTwo p s1 s2)[1] = stepB (if p then stepB s2 else s2) :=
  getElem_seedTwo_odd p s1 s2 0 (by decide)

theorem seedTwo_next_even (k : Nat) (h : k < 7) :
    (seedTwo p s1 s2)[2 * k + 2] = stepA (seedTwo p s1 s2)[2 * k] := by
  rw [getElem_seedTwo_even, ← loopOutput_succ stepA]
  exact getElem_seedTwo_even p s1 s2 (k + 1) (by omega)

theorem seedTwo_next_odd (k : Nat) (h : k < 7) :
    (seedTwo p s1 s2)[2 * k + 3] = stepB (seedTwo p s1 s2)[2 * k + 1] := by
  rw [getElem_seedTwo_odd, ← loopOutput_succ stepB]
  exact getElem_seedTwo_odd p s1 s2 (k + 1) (by omega)

end

/-! ### The seeding commands (R76 to R78) -/

theorem exec_init1 (seed : Word) (s : State) :
    exec (.init1 seed) s = .next ((s.loadLanes (seedOne seed)).respond 0) := rfl

theorem exec_initd (s : State) : exec .initd s = exec (.init1 0) s := rfl

theorem exec_init2 (s1 s2 : Word) (s : State) :
    exec (.init2 s1 s2) s = .next ((s.loadLanes (seedTwo s.cfg.init2Prestep s1 s2)).respond 0) := rfl

/-- Settles O23: INIT1 loads the lanes of the one-seed loop, each of which is the lane before it stepped once. -/
theorem init1SeedsEveryLane : Obligations.Init1SeedsEveryLane :=
  ⟨encoded_init1, fun seed s =>
    ⟨_, exec_init1 seed s, seedOne_first seed, seedOne_next seed, rfl, s.loadLanes_answers _ _⟩⟩

/-- Settles O24: INITD does what INIT1 does with seed 0, so it leaves the lanes of that loop. -/
theorem initdIsInit1OfZero : Obligations.InitdIsInit1OfZero := by
  refine ⟨encoded_initd, fun s => ?_⟩
  obtain ⟨t, ht, effect⟩ := init1SeedsEveryLane.2 0 s
  exact ⟨t, (exec_initd s).trans ht, ht, effect⟩

/-- Settles O25: INIT2 loads the lanes of the two-seed loop, whose even and odd lanes each are the lane two before, stepped
once by their own step. -/
theorem init2InterleavesTwoSeeds : Obligations.Init2InterleavesTwoSeeds :=
  ⟨encoded_init2, fun s1 s2 s =>
    ⟨_, exec_init2 s1 s2 s, seedTwo_first_even _ s1 s2, seedTwo_first_odd _ s1 s2,
      fun k h => ⟨seedTwo_next_even _ s1 s2 k h, seedTwo_next_odd _ s1 s2 k h⟩, rfl, s.loadLanes_answers _ _⟩⟩

end Sys2Proof.Proofs
end

section
/-! PROOFS. The refill: what a MAC unit computes, the lanes the refill tree leaves, and REFILL (41_refill.md R85 to R87). -/

namespace Sys2Proof.Proofs

open Sys2Proof.Machine Sys2Proof.Safety Sys2Proof.Claims

/-! ### A MAC unit (R86) -/

/-- The low 32 bits of the 64-bit product are the wrapping product, so a MAC unit is the lane step. -/
theorem macUnit_eq_lcgStep (x m c : Word) : macUnit x m c = lcgStep x m c := by
  have low : (x.setWidth 64 * m.setWidth 64).setWidth 32 = x * m := by
    rw [BitVec.setWidth_mul _ _ (by decide), BitVec.setWidth_setWidth_of_le _ (by decide),
      BitVec.setWidth_setWidth_of_le _ (by decide), BitVec.setWidth_eq, BitVec.setWidth_eq]
  rw [macUnit, low, lcgStep_eq]

theorem macUnit_toNat (x m c : Word) :
    (macUnit x m c).toNat = (x.toNat * m.toNat % 2 ^ 32 + c.toNat) % 2 ^ 32 := by
  rw [macUnit_eq_lcgStep, lcgStep_eq, BitVec.toNat_add, BitVec.toNat_mul]

/-! ### The refill tree and REFILL (R85, R87) -/

/-- Any state that holds the lanes of the refill tree is refilled. -/
theorem refilled_of_lanes_eq {s t : State} (h : t.lanes = refillTree s.rom s.lanes) : Refilled s t := by
  intro i hi
  simp only [h, getElem_refillTree, macUnit_eq_lcgStep, lcgStep_toNat]

theorem exec_refill (s : State) : exec .refill s = .next (s.refillAll.respond 0) := rfl

/-- A lane after REFILL is the output of its own MAC unit. -/
theorem getElem_lanes_of_exec_refill {s t : State} (ht : exec .refill s = .next t) (i : Nat) (hi : i < 16) :
    t.lanes[i] = macUnit s.lanes[i] s.rom.mult[i] s.rom.incr[i] := by
  obtain rfl := Host.Outcome.next.inj ((exec_refill s).symm.trans ht)
  exact getElem_refillTree s.rom s.lanes i hi

/-- Settles O30: REFILL loads the lanes of the refill tree, which are the lane steps, whatever the cursor. -/
theorem refillStepsEveryLane : Obligations.RefillStepsEveryLane :=
  ⟨encoded_refill, fun s => ⟨_, exec_refill s, refilled_of_lanes_eq rfl, rfl, s.loadLanes_answers _ _⟩⟩

/-- Settles O31: lane `i` after REFILL is its own MAC unit's output, which names lane `i` and its coefficients only. -/
theorem lanesNeverInteractInARefill : Obligations.LanesNeverInteractInARefill := by
  refine ⟨fun x m c => ⟨macUnit_eq_lcgStep x m c, macUnit_toNat x m c⟩, ?_⟩
  intro s s' t t' i hi hlane hmult hincr ht ht'
  calc t.lanes[i]
      = macUnit s.lanes[i] s.rom.mult[i] s.rom.incr[i] := getElem_lanes_of_exec_refill ht i hi
    _ = macUnit s'.lanes[i] s'.rom.mult[i] s'.rom.incr[i] := by rw [hlane, hmult, hincr]
    _ = t'.lanes[i] := (getElem_lanes_of_exec_refill ht' i hi).symm

end Sys2Proof.Proofs
end

section
/-! PROOFS. The extraction commands: what consuming one lane or a pair does at every cursor value, and the FCU gate before it
(42_extract.md R99 to R103, 60_exceptions.md R134). -/

namespace Sys2Proof.Proofs

open Sys2Proof.Machine Sys2Proof.Safety Sys2Proof.Claims

/-! ### Consuming lanes (R98, R103) -/

theorem cursor_eq_full {s : State} (h : s.cursor.val = 16) : s.cursor = 16 := Fin.ext h

/-- Below cursor 16 the lanes stay and the cursor moves by one; at 16 the refill comes first. -/
theorem takeOne_consumesOne (f : Word → DWord) (s : State) : ConsumesOne f s (s.takeOne f) := by
  constructor
  · intro hlt
    rw [State.takeOne_of_lt f hlt]
    exact ⟨rfl, rfl, s.consume_answers _ _⟩
  · intro hfull
    rw [State.takeOne_of_full f (cursor_eq_full hfull)]
    exact ⟨refilled_of_lanes_eq rfl, rfl, s.loadLanes_consume_answers _ _ _⟩

/-- Below cursor 15 the lanes stay and the cursor moves by two; at 16 the refill comes first. -/
theorem takePair_consumesTwo (f : Word → Word → DWord) (s : State) : ConsumesTwo f s (s.takePair f) := by
  constructor
  · intro hlt
    rw [State.takePair_of_lt f hlt]
    exact ⟨rfl, rfl, s.consume_answers _ _⟩
  · intro hfull
    rw [State.takePair_of_full f (cursor_eq_full hfull)]
    exact ⟨refilled_of_lanes_eq rfl, rfl, s.loadLanes_consume_answers _ _ _⟩

/-- At cursor 15 the pair would cross the end of the buffer. -/
theorem takePair_raises_pairCross (f : Word → Word → DWord) {s : State} (h : s.cursor.val = 15) :
    Raises s (s.takePair f) .pairCross := by
  rw [State.takePair_of_crossing f h]
  exact s.raiseUnspecified_raises .pairCross

/-! ### The FCU gate (30_encoding.md R65) -/

section
variable {i : Instr} {body : State → State} (hexec : ∀ s, exec i s = .next (s.withFcu body))
include hexec

/-- A gated command raises ILLEGAL_OP on a block without the FCU, whatever its body. -/
theorem illegalWithoutFcu_of_withFcu : IllegalWithoutFcu i := by
  intro s hno
  refine ⟨s.illegalOp, ?_, s.illegalOp_raises, rfl⟩
  rw [hexec, State.withFcu_absent body hno]

/-- A gated command is its body on a block with the FCU. -/
theorem exec_eq_body_of_withFcu {s : State} (hfcu : s.cfg.hasFcu = true) : exec i s = .next (body s) := by
  rw [hexec, State.withFcu_present body hfcu]

end

/-! ### The extraction commands (R99 to R102) -/

theorem exec_nxu32 (s : State) : exec .nxu32 s = .next (s.takeOne fun x => narrowResult (fold x)) := rfl

theorem exec_nxf32 (s : State) :
    exec .nxf32 s = .next (s.withFcu fun s => s.takeOne fun x => narrowResult (fcu32 x)) := rfl

theorem exec_nxf64 (s : State) : exec .nxf64 s = .next (s.withFcu fun s => s.takeOne fun x => fcu64 (fold x)) := rfl

theorem exec_nxf64x2 (s : State) : exec .nxf64x2 s = .next (s.withFcu fun s => s.takePair fcu64x2) := rfl

/-- Settles O38: NXU32 consumes one lane and answers it folded, in the low half of the response. -/
theorem nxu32ReturnsTheFoldedLane : Obligations.Nxu32ReturnsTheFoldedLane :=
  ⟨encoded_nxu32, fun s => ⟨_, exec_nxu32 s, takeOne_consumesOne _ s⟩⟩

/-- Settles O39: NXF32 is gated, and past the gate consumes one lane and answers the binary32 pattern of the raw lane. -/
theorem nxf32ReturnsTheRawLaneAsBinary32 : Obligations.Nxf32ReturnsTheRawLaneAsBinary32 :=
  ⟨encoded_nxf32, illegalWithoutFcu_of_withFcu exec_nxf32, fun s hfcu =>
    ⟨_, exec_eq_body_of_withFcu exec_nxf32 hfcu, takeOne_consumesOne _ s⟩⟩

/-- Settles O40: NXF64 is gated, and past the gate consumes one lane and answers the binary64 pattern of the folded lane. -/
theorem nxf64ReturnsTheFoldedLaneAsBinary64 : Obligations.Nxf64ReturnsTheFoldedLaneAsBinary64 :=
  ⟨encoded_nxf64, illegalWithoutFcu_of_withFcu exec_nxf64, fun s hfcu =>
    ⟨_, exec_eq_body_of_withFcu exec_nxf64 hfcu, takeOne_consumesOne _ s⟩⟩

/-- Settles O41: NXF64X2 is gated, and past the gate consumes a lane pair, or raises PAIR_CROSS where the cursor is 15. -/
theorem nxf64x2ReturnsTheRawPairAsBinary64 : Obligations.Nxf64x2ReturnsTheRawPairAsBinary64 :=
  ⟨encoded_nxf64x2, illegalWithoutFcu_of_withFcu exec_nxf64x2,
    fun s hfcu _ => ⟨_, exec_eq_body_of_withFcu exec_nxf64x2 hfcu, takePair_consumesTwo _ s⟩,
    fun _ hfcu h15 => ⟨_, exec_eq_body_of_withFcu exec_nxf64x2 hfcu, takePair_raises_pairCross _ h15⟩⟩

end Sys2Proof.Proofs
end

section
/-! PROOFS. The view commands: what reading one lane or a pair at an index answers, and the index at which the pair does not
exist (43_view.md R110 to R114, 60_exceptions.md R135). -/

namespace Sys2Proof.Proofs

open Sys2Proof.Machine Sys2Proof.Safety Sys2Proof.Claims

/-! ### Reading lanes through an index (R61, R110) -/

theorem laneIndex_ofNat {i : Nat} (h : i < 16) : laneIndex (BitVec.ofNat 4 i) = ⟨i, h⟩ :=
  Fin.ext (Nat.mod_eq_of_lt h)

theorem respond_sameBuffer (s : State) (d : DWord) : SameBuffer s (s.respond d) := ⟨rfl, rfl⟩

/-- A view of one lane answers `f` of the lane its index names, and leaves the buffer as it is. -/
theorem viewOne_reads (f : Word → DWord) (s : State) {i : Nat} (h : i < 16) :
    SameBuffer s (s.viewOne f (laneIndex (BitVec.ofNat 4 i))) ∧
      Answers s (s.viewOne f (laneIndex (BitVec.ofNat 4 i))) (f s.lanes[i]) := by
  rw [laneIndex_ofNat h]
  exact ⟨respond_sameBuffer s _, s.respond_answers _⟩

/-- A view of a pair below index 15 answers `f` of the two lanes, and leaves the buffer as it is. -/
theorem viewPair_reads (f : Word → Word → DWord) (s : State) {i : Nat} (h : i < 15) :
    SameBuffer s (s.viewPair f (laneIndex (BitVec.ofNat 4 i))) ∧
      Answers s (s.viewPair f (laneIndex (BitVec.ofNat 4 i))) (f s.lanes[i] s.lanes[i + 1]) := by
  rw [laneIndex_ofNat (Nat.lt_succ_of_lt h), State.viewPair_of_lt f _ (Nat.succ_lt_succ h)]
  exact ⟨respond_sameBuffer s _, s.respond_answers _⟩

/-- At index 15 the second lane of the pair does not exist. -/
theorem viewPair_raises_viewRange (f : Word → Word → DWord) (s : State) :
    Raises s (s.viewPair f (laneIndex 15#4)) .viewRange := by
  rw [State.viewPair_of_last f _ rfl]
  exact s.raiseUnspecified_raises .viewRange

/-! ### The view commands (R111 to R114) -/

theorem exec_vwu32 (idx : BitVec 4) (s : State) :
    exec (.vwu32 idx) s = .next (s.viewOne narrowResult (laneIndex idx)) := rfl

theorem exec_vwf32 (idx : BitVec 4) (s : State) :
    exec (.vwf32 idx) s = .next (s.withFcu fun s => s.viewOne (fun x => narrowResult (fcu32 x)) (laneIndex idx)) := rfl

theorem exec_vwf64 (idx : BitVec 4) (s : State) :
    exec (.vwf64 idx) s = .next (s.withFcu fun s => s.viewOne (fun x => fcu64 (fold x)) (laneIndex idx)) := rfl

theorem exec_vwf64x2 (idx : BitVec 4) (s : State) :
    exec (.vwf64x2 idx) s = .next (s.withFcu fun s => s.viewPair fcu64x2 (laneIndex idx)) := rfl

/-- Settles O42: VWU32 has no gate, and answers the raw lane in the low half of the response. -/
theorem vwu32ReturnsTheRawLane : Obligations.Vwu32ReturnsTheRawLane :=
  ⟨encoded_vwu32, fun _ hi s => ⟨_, exec_vwu32 _ s, viewOne_reads narrowResult s hi⟩⟩

/-- Settles O43: VWF32 is gated, and past the gate answers the binary32 pattern of the raw lane. -/
theorem vwf32ReturnsTheRawLaneAsBinary32 : Obligations.Vwf32ReturnsTheRawLaneAsBinary32 :=
  ⟨encoded_vwf32, fun idx => illegalWithoutFcu_of_withFcu (exec_vwf32 idx), fun _ hi s hfcu =>
    ⟨_, exec_eq_body_of_withFcu (exec_vwf32 _) hfcu, viewOne_reads (fun x => narrowResult (fcu32 x)) s hi⟩⟩

/-- Settles O44: VWF64 is gated, and past the gate answers the binary64 pattern of the folded lane. -/
theorem vwf64ReturnsTheFoldedLaneAsBinary64 : Obligations.Vwf64ReturnsTheFoldedLaneAsBinary64 :=
  ⟨encoded_vwf64, fun idx => illegalWithoutFcu_of_withFcu (exec_vwf64 idx), fun _ hi s hfcu =>
    ⟨_, exec_eq_body_of_withFcu (exec_vwf64 _) hfcu, viewOne_reads (fun x => fcu64 (fold x)) s hi⟩⟩

/-- Settles O45: VWF64X2 is gated, and past the gate answers the pattern of the raw pair, or raises VIEW_RANGE at index 15. -/
theorem vwf64x2ReturnsTheRawPairAsBinary64 : Obligations.Vwf64x2ReturnsTheRawPairAsBinary64 :=
  ⟨encoded_vwf64x2, fun idx => illegalWithoutFcu_of_withFcu (exec_vwf64x2 idx),
    fun _ hi s hfcu => ⟨_, exec_eq_body_of_withFcu (exec_vwf64x2 _) hfcu, viewPair_reads fcu64x2 s hi⟩,
    fun s hfcu => ⟨_, exec_eq_body_of_withFcu (exec_vwf64x2 _) hfcu, viewPair_raises_viewRange fcu64x2 s⟩⟩

end Sys2Proof.Proofs
end

section
/-! PROOFS. The status commands: what each field of the STATUS word reads, and the INFO word as a number (44_status.md R123,
R124). -/

namespace Sys2Proof.Proofs

open Sys2Proof.Machine Sys2Proof.Safety Sys2Proof.Claims

/-! ### The STATUS word, field by field (R27, R123)

A field is the word's low end once the fields below it are passed over, one rewrite for each. -/

theorem getLsbD_append_of_le {m n i : Nat} {x : BitVec m} {y : BitVec n} (h : n ≤ i) :
    (x ++ y).getLsbD i = x.getLsbD (i - n) := by
  rw [BitVec.getLsbD_append, if_neg (Nat.not_lt.mpr h)]

theorem getLsbD_append_ofBool_zero {m : Nat} (x : BitVec m) (b : Bool) : (x ++ BitVec.ofBool b).getLsbD 0 = b := by
  rw [BitVec.getLsbD_append, if_pos Nat.one_pos, BitVec.getLsbD_ofBool, decide_eq_true rfl, Bool.true_and]

theorem cursorBits_toNat (c : Fin 17) : (cursorBits c).toNat = c.val :=
  Nat.mod_eq_of_lt (Nat.lt_trans c.isLt (by decide))

section
variable (s : State)

theorem statusWord_cursor : (statusWord s).extractLsb' 0 5 = cursorBits s.cursor :=
  BitVec.extractLsb'_append_eq_right

theorem statusWord_zeros_from_5 : (statusWord s).extractLsb' 5 3 = 0 := by
  rw [statusWord, BitVec.extractLsb'_append_eq_of_le (by decide)]
  exact BitVec.extractLsb'_append_eq_right

theorem statusWord_err : (statusWord s).getLsbD 8 = s.err := by
  rw [statusWord]
  iterate 2 rw [getLsbD_append_of_le (by decide)]
  exact getLsbD_append_ofBool_zero _ _

theorem statusWord_errCause : (statusWord s).extractLsb' 9 3 = s.errCause.code := by
  rw [statusWord]
  iterate 3 rw [BitVec.extractLsb'_append_eq_of_le (by decide)]
  exact BitVec.extractLsb'_append_eq_right

theorem statusWord_zeros_from_12 : (statusWord s).extractLsb' 12 4 = 0 := by
  rw [statusWord]
  iterate 4 rw [BitVec.extractLsb'_append_eq_of_le (by decide)]
  exact BitVec.extractLsb'_append_eq_right

theorem statusWord_hasFcu : (statusWord s).getLsbD 16 = s.cfg.hasFcu := by
  rw [statusWord]
  iterate 5 rw [getLsbD_append_of_le (by decide)]
  exact getLsbD_append_ofBool_zero _ _

theorem statusWord_init2Prestep : (statusWord s).getLsbD 17 = s.cfg.init2Prestep := by
  rw [statusWord]
  iterate 6 rw [getLsbD_append_of_le (by decide)]
  exact getLsbD_append_ofBool_zero _ _

theorem statusWord_zeros_from_18 : (statusWord s).extractLsb' 18 46 = 0 := by
  rw [statusWord]
  iterate 7 rw [BitVec.extractLsb'_append_eq_of_le (by decide)]
  exact BitVec.extractLsb'_eq_self

end

/-! ### The INFO word (R124) -/

theorem infoWord_toNat (c : Config) : (infoWord c).toNat = c.versionId.toNat * 2 ^ 32 + 32 * 2 ^ 8 + 16 := by
  simp only [infoWord, laneW, nLanes, toNat_append_eq_add, BitVec.toNat_ofNat]
  omega

/-! ### The status commands (R123, R124) -/

theorem exec_status (s : State) : exec .status s = .next (s.respond (statusWord s)) := rfl

theorem exec_info (s : State) : exec .info s = .next (s.respond (infoWord s.cfg)) := rfl

/-- Settles O48: STATUS only answers the STATUS word, whose fields hold the status, and whose cause is the code of R131. -/
theorem statusReturnsEveryField : Obligations.StatusReturnsEveryField := by
  refine ⟨encoded_status, fun s => ⟨_, statusWord s, exec_status s, respond_sameBuffer s _, s.respond_answers _, ?_,
    statusWord_zeros_from_5 s, statusWord_err s, ?_, statusWord_zeros_from_12 s, statusWord_hasFcu s,
    statusWord_init2Prestep s, statusWord_zeros_from_18 s⟩⟩
  · rw [statusWord_cursor, cursorBits_toNat]
  · rw [statusWord_errCause]
    cases s.errCause <;> rfl

/-- Settles O49: INFO only answers the INFO word, whose value is the sum of the constants at their places. -/
theorem infoReturnsTheConstants : Obligations.InfoReturnsTheConstants :=
  ⟨encoded_info, fun s =>
    ⟨_, _, exec_info s, respond_sameBuffer s _, s.respond_answers _, infoWord_toNat s.cfg⟩⟩

end Sys2Proof.Proofs
end

section
/-! PROOFS. Errors: the cause an instruction raises in a state, that its command word is given the same cause by the table of
R131, the host that raises none, and the sticky error record (60_exceptions.md R130 to R137). -/

namespace Sys2Proof.Proofs

open Sys2Proof.Machine Sys2Proof.Safety Sys2Proof.Claims
open Sys2Proof.Laws.EncodedFields (opcode)

/-! ### How a command ends -/

/-- A command with cause `k` takes `s` to `t`: it answers without error where `k` is NONE, and raises `k` otherwise. -/
def EndsWith (s t : State) (k : ErrCause) : Prop :=
  (k = .none → ∃ d, Answers s t d) ∧ (k ≠ .none → Raises s t k)

theorem endsWith_none {s t : State} {d : DWord} (h : Answers s t d) : EndsWith s t .none :=
  ⟨fun _ => ⟨d, h⟩, fun hk => absurd rfl hk⟩

theorem endsWith_of_raises {s t : State} {k : ErrCause} (hk : k ≠ .none) (h : Raises s t k) : EndsWith s t k :=
  ⟨fun hnone => absurd hnone hk, fun _ => h⟩

theorem takeOne_endsWith (s : State) (f : Word → DWord) : EndsWith s (s.takeOne f) .none := by
  rcases s.cursor_lt_or_full with hlt | hfull
  · rw [State.takeOne_of_lt f hlt]
    exact endsWith_none (s.consume_answers _ _)
  · rw [State.takeOne_of_full f hfull]
    exact endsWith_none (s.loadLanes_consume_answers _ _ _)

/-- Cursor 15 is the only one at which a pair extraction fails; at 16 the refill comes first (R132). -/
theorem takePair_endsWith (s : State) (f : Word → Word → DWord) :
    EndsWith s (s.takePair f) (if s.cursor.val = 15 then .pairCross else .none) := by
  split
  case isTrue h15 => exact endsWith_of_raises nofun (takePair_raises_pairCross f h15)
  case isFalse h15 =>
    rcases s.cursor_lt_or_full with hlt | hfull
    · rw [State.takePair_of_lt f (by omega)]
      exact endsWith_none (s.consume_answers _ _)
    · rw [State.takePair_of_full f hfull]
      exact endsWith_none (s.loadLanes_consume_answers _ _ _)

theorem viewPair_endsWith (s : State) (f : Word → Word → DWord) (idx : BitVec 4) :
    EndsWith s (s.viewPair f (laneIndex idx)) (if idx = 15#4 then .viewRange else .none) := by
  split
  case isTrue h15 =>
    rw [h15]
    exact endsWith_of_raises nofun (viewPair_raises_viewRange f s)
  case isFalse h15 =>
    rw [State.viewPair_of_lt f _ (by rw [laneIndex_val]; bv_omega)]
    exact endsWith_none (s.respond_answers _)

/-- The FCU gate is checked before anything the body can raise (R132, R140). -/
theorem withFcu_endsWith {s : State} {body : State → State} {k : ErrCause} (h : EndsWith s (body s) k) :
    EndsWith s (s.withFcu body) (if s.cfg.hasFcu = true then k else .illegalOp) := by
  unfold State.withFcu
  split
  · exact h
  · exact endsWith_of_raises nofun s.illegalOp_raises

/-! ### The cause an instruction raises -/

/-- The cause of breaking the host's contract with `i` (R134, R135); NONE where the host keeps it. -/
def breachCause (i : Instr) (s : State) : ErrCause :=
  match i with
  | .nxf64x2 => if s.cursor.val = 15 then .pairCross else .none
  | .vwf64x2 idx => if idx = 15#4 then .viewRange else .none
  | _ => .none

/-- The cause `i` raises in `s`: ILLEGAL_OP on a block that lacks `i`, and else the breach of the contract (R140). -/
def instrCause (i : Instr) (s : State) : ErrCause :=
  if i.wellFormed s.cfg.hasFcu = true then breachCause i s else .illegalOp

theorem breachCause_of_hostKeeps {i : Instr} {s : State} (h : HostKeeps i s = true) : breachCause i s = .none := by
  cases i with
  | nxf64x2 => exact if_neg (bne_iff_ne.mp h)
  | vwf64x2 idx => exact if_neg (bne_iff_ne.mp h)
  | _ => rfl

theorem instrCause_of_hostKeeps {i : Instr} {s : State} (hwf : i.wellFormed s.cfg.hasFcu = true)
    (hkeep : HostKeeps i s = true) : instrCause i s = .none := by
  rw [instrCause, if_pos hwf, breachCause_of_hostKeeps hkeep]

/-- Every instruction ends, and ends with its cause. -/
theorem exec_endsWith (i : Instr) (s : State) : ∃ t, exec i s = .next t ∧ EndsWith s t (instrCause i s) := by
  cases i with
  | status => exact ⟨_, exec_status s, endsWith_none (s.respond_answers _)⟩
  | info => exact ⟨_, exec_info s, endsWith_none (s.respond_answers _)⟩
  | initd => exact ⟨_, (exec_initd s).trans (exec_init1 0 s), endsWith_none (s.loadLanes_answers _ _)⟩
  | init1 seed => exact ⟨_, exec_init1 seed s, endsWith_none (s.loadLanes_answers _ _)⟩
  | init2 s1 s2 => exact ⟨_, exec_init2 s1 s2 s, endsWith_none (s.loadLanes_answers _ _)⟩
  | refill => exact ⟨_, exec_refill s, endsWith_none (s.loadLanes_answers _ _)⟩
  | nxu32 => exact ⟨_, exec_nxu32 s, takeOne_endsWith s _⟩
  | nxf32 => exact ⟨_, exec_nxf32 s, withFcu_endsWith (takeOne_endsWith s _)⟩
  | nxf64 => exact ⟨_, exec_nxf64 s, withFcu_endsWith (takeOne_endsWith s _)⟩
  | nxf64x2 => exact ⟨_, exec_nxf64x2 s, withFcu_endsWith (takePair_endsWith s _)⟩
  | vwu32 idx => exact ⟨_, exec_vwu32 idx s, endsWith_none (s.respond_answers _)⟩
  | vwf32 idx => exact ⟨_, exec_vwf32 idx s, withFcu_endsWith (endsWith_none (s.respond_answers _))⟩
  | vwf64 idx => exact ⟨_, exec_vwf64 idx s, withFcu_endsWith (endsWith_none (s.respond_answers _))⟩
  | vwf64x2 idx => exact ⟨_, exec_vwf64x2 idx s, withFcu_endsWith (viewPair_endsWith s _ idx)⟩

/-- Settles O51: an instruction ends with its cause, and the host that keeps the contract gives it none. -/
theorem contractKeepingHostSeesNoError : Obligations.ContractKeepingHostSeesNoError := by
  intro i s hwf hkeep
  obtain ⟨t, ht, answers, -⟩ := exec_endsWith i s
  obtain ⟨d, hd⟩ := answers (instrCause_of_hostKeeps hwf hkeep)
  exact ⟨t, d, ht, hd⟩

/-! ### The cause the table of R131 gives a command word -/

theorem fieldOp_of_decode {w : CmdWord} {i : Instr} (h : decode w = .ok i) : fieldOp w = opcode i := by
  unfold decode at h
  split at h
  case h_15 => cases h
  all_goals
    cases h
    exact eq_ofNat_of_toNat_eq ‹_›

theorem reserved_of_decode {w : CmdWord} {e : DecodeError} (h : decode w = .error e) :
    fieldOp w = 0xE#4 ∨ fieldOp w = 0xF#4 := by
  unfold decode at h
  split at h
  case h_15 =>
    simp only [imp_false] at *
    bv_omega
  all_goals cases h

theorem fieldIdx_of_decode {w : CmdWord} {idx : BitVec 4} (h : decode w = .ok (.vwf64x2 idx)) : fieldIdx w = idx := by
  rw [encoded_vwf64x2 w (fieldOp_of_decode h)] at h
  cases h
  rfl

theorem causeOf_of_reserved {w : CmdWord} (h : fieldOp w = 0xE#4 ∨ fieldOp w = 0xF#4) (s : State) :
    causeOf w s = .illegalOp := by
  rcases h with h | h <;> simp [causeOf, h]

/-- The opcodes of the table's ILLEGAL_OP row, seen from the instruction: the block lacks it (R65). -/
theorem illegal_opcode_iff (i : Instr) (hasFcu : Bool) :
    (opcode i = 0xE#4 ∨ opcode i = 0xF#4 ∨ (hasFcu = false ∧ opcode i ∈ fcuOpcodes)) ↔ ¬ i.wellFormed hasFcu = true := by
  cases i <;> simp [opcode, fcuOpcodes, Instr.wellFormed, Instr.needsFcu]

/-- The table finds the cause of the instruction in the word's fields, row by row. -/
theorem causeOf_of_decode {w : CmdWord} {i : Instr} (h : decode w = .ok i) (s : State) : causeOf w s = instrCause i s := by
  rw [causeOf, instrCause, fieldOp_of_decode h]
  by_cases hwf : i.wellFormed s.cfg.hasFcu = true
  · rw [if_neg (fun hill => (illegal_opcode_iff i _).mp hill hwf), if_pos hwf]
    cases i with
    | nxf64x2 => simp [opcode, breachCause]
    | vwf64x2 idx => simp [opcode, breachCause, fieldIdx_of_decode h]
    | _ => simp [opcode, breachCause]
  · rw [if_pos ((illegal_opcode_iff i _).mpr hwf), if_neg hwf]

/-- Every command word ends, and ends with the cause of the table. -/
theorem command_endsWith (w : CmdWord) (s : State) : ∃ t, command w s = .next t ∧ EndsWith s t (causeOf w s) := by
  cases h : decode w with
  | ok i =>
    rw [command_of_decode h, causeOf_of_decode h]
    exact exec_endsWith i s
  | error e =>
    have hres := reserved_of_decode h
    rw [command_of_reserved hres, causeOf_of_reserved hres]
    exact ⟨_, rfl, endsWith_of_raises nofun s.illegalOp_raises⟩

/-- Settles O50: a decoded word has its instruction's cause, and a reserved one has ILLEGAL_OP. -/
theorem errorCauseOfEveryCommandWord : Obligations.ErrorCauseOfEveryCommandWord :=
  ⟨⟨rfl, rfl, rfl, rfl⟩, command_endsWith⟩

/-! ### The sticky error record (R136, R137) -/

/-- A command neither clears `ERR` nor replaces a recorded cause. -/
theorem commandEffect_keeps_record {s t : State} (h : CommandEffect s t) (herr : s.err = true) :
    t.err = true ∧ t.errCause = s.errCause := by
  rcases h with ⟨d, answers⟩ | ⟨k, -, raises⟩
  · exact ⟨answers.err.trans herr, answers.errCause⟩
  · exact ⟨raises.err, raises.kept herr⟩

/-- Settles O52: without reset an edge runs a command, which keeps the record, or leaves the record alone. -/
theorem errorIsStickyUntilReset : Obligations.ErrorIsStickyUntilReset := by
  intro s herr hrst
  unfold step
  rcases edge_cases s.pins s.popPins with
    ⟨reset, -⟩ | ⟨-, -, -, idle⟩ | ⟨-, -, -, accept⟩ | ⟨-, r, -, ⟨-, wait⟩ | ⟨-, -, transfer⟩⟩
  · rw [hrst] at reset
    cases reset
  · exact ⟨_, idle, herr, rfl⟩
  · obtain ⟨t, ht, effect⟩ := command_effect s.pins.cmdWord s.popPins.begin
    have kept := commandEffect_keeps_record effect herr
    exact ⟨t, accept.trans ht, kept⟩
  · exact ⟨_, wait, herr, rfl⟩
  · exact ⟨_, transfer, herr, rfl⟩

end Sys2Proof.Proofs
end

section
/-! PROOFS. The reset edge, and its lanes as those of the one-seed loop with seed 0 (10_state.md R34, R35;
70_reset_and_hazards.md R150, R151). -/

namespace Sys2Proof.Proofs

open Sys2Proof.Machine Sys2Proof.Safety Sys2Proof.Claims

/-- The table of R35 is what the seeding loop of INITD computes. -/
theorem resetLanes_eq_seedOne_zero : resetLanes = seedOne 0 := by decide

theorem lanes_of_exec_initd {s u : State} (hu : exec .initd s = .next u) : u.lanes = resetLanes := by
  rw [exec_initd, exec_init1] at hu
  cases hu
  exact resetLanes_eq_seedOne_zero.symm

/-- An edge with `rst` resets the block, whatever it was doing. -/
theorem step_reset {s : State} (hrst : s.pins.rst = true) : step s = .next s.popPins.resetEdge := by
  simp [step, edge, hrst]

theorem cmdReady_of_rst {s : State} (hrst : s.pins.rst = true) : s.cmdReady = false := by
  simp [State.cmdReady, hrst]

theorem rspValid_of_rst {s : State} (hrst : s.pins.rst = true) : s.rspValid = false := by
  simp [State.rspValid, hrst]

/-- Settles O19: `rst` masks both handshake outputs, and the edge answers the reset state with the block's own ROMs and
constants, whose lanes are those of INITD. -/
theorem resetEdgeSetsEveryPieceOfState : Obligations.ResetEdgeSetsEveryPieceOfState := fun _ hrst =>
  ⟨cmdReady_of_rst hrst, rspValid_of_rst hrst, _, step_reset hrst, fun _ hu => (lanes_of_exec_initd hu).symm,
    rfl, rfl, rfl, rfl, rfl, rfl, rfl⟩

end Sys2Proof.Proofs
end

section
/-! PROOFS. The command set and its text: the decoder inverts the encoder, the FCU opcodes, and the assembler
(30_encoding.md R64 to R70). -/

namespace Sys2Proof.Proofs

open Sys2Proof.Machine Sys2Proof.Safety Sys2Proof.Claims
open Sys2Proof.Laws.EncodedFields (opcode fieldOp_commandWord)

/-! ### Decoding what was encoded (R64, R69) -/

theorem fieldOp_encode (i : Instr) : fieldOp (encode i) = opcode i := by
  cases i <;> exact fieldOp_commandWord _ _ _ _

/-- Each encoding has its opcode's form, and its operands read back from the fields they were put into. -/
theorem decode_encode (i : Instr) : decode (encode i) = .ok i := by
  have hop := fieldOp_encode i
  cases i with
  | status => exact encoded_status _ hop
  | info => exact encoded_info _ hop
  | initd => exact encoded_initd _ hop
  | init1 s => exact (encoded_init1 _ hop).trans (by simp [encode])
  | init2 s1 s2 => exact (encoded_init2 _ hop).trans (by simp [encode])
  | refill => exact encoded_refill _ hop
  | nxu32 => exact encoded_nxu32 _ hop
  | nxf32 => exact encoded_nxf32 _ hop
  | nxf64 => exact encoded_nxf64 _ hop
  | nxf64x2 => exact encoded_nxf64x2 _ hop
  | vwu32 idx => exact (encoded_vwu32 _ hop).trans (by simp [encode])
  | vwf32 idx => exact (encoded_vwf32 _ hop).trans (by simp [encode])
  | vwf64 idx => exact (encoded_vwf64 _ hop).trans (by simp [encode])
  | vwf64x2 idx => exact (encoded_vwf64x2 _ hop).trans (by simp [encode])

/-- Settles O1: the opcode of an encoding selects its own row of the decoder, where the operands read back. -/
theorem decodeOfEncodeIsTheInstruction : Obligations.DecodeOfEncodeIsTheInstruction := decode_encode

/-- A word put together by the encoder does what its instruction does. -/
theorem command_encode (i : Instr) (s : State) : command (encode i) s = exec i s :=
  command_of_decode (decode_encode i) s

/-- Settles O2: nine closed words, evaluated. -/
theorem specWordsDecodeToTheirCommands : Obligations.SpecWordsDecodeToTheirCommands := by
  unfold Obligations.SpecWordsDecodeToTheirCommands
  decide

theorem opcode_lt (i : Instr) : (opcode i).toNat < 14 := by
  cases i <;> simp [opcode]

/-- Settles O5: the opcode of a decoded word is its instruction's, and a word that does not decode has 0xE or 0xF. -/
theorem exactlyFourteenOpcodesDecode : Obligations.ExactlyFourteenOpcodesDecode := by
  refine fun w => ⟨⟨fun hlt => ?_, fun ⟨i, h⟩ => ?_⟩, fun i h => ?_⟩
  · cases h : decode w with
    | ok i => exact ⟨i, rfl⟩
    | error e => rcases reserved_of_decode h with hop | hop <;> simp [hop] at hlt
  · rw [fieldOp_of_decode h]
    exact opcode_lt i
  · rw [fieldOp_encode, fieldOp_of_decode h]

/-! ### The commands that need the FCU (R65) -/

theorem needsFcu_iff_opcode_mem (i : Instr) : i.needsFcu = true ↔ opcode i ∈ fcuOpcodes := by
  cases i <;> simp [Instr.needsFcu, opcode, fcuOpcodes]

/-- A command that needs the FCU is some body behind the gate. -/
theorem exists_body_of_needsFcu {i : Instr} (h : i.needsFcu = true) :
    ∃ body, ∀ s, exec i s = .next (s.withFcu body) := by
  cases i with
  | nxf32 => exact ⟨_, exec_nxf32⟩
  | nxf64 => exact ⟨_, exec_nxf64⟩
  | nxf64x2 => exact ⟨_, exec_nxf64x2⟩
  | vwf32 idx => exact ⟨_, exec_vwf32 idx⟩
  | vwf64 idx => exact ⟨_, exec_vwf64 idx⟩
  | vwf64x2 idx => exact ⟨_, exec_vwf64x2 idx⟩
  | _ => cases h

theorem exec_eq_illegalOp_of_needsFcu {i : Instr} {s : State} (h : i.needsFcu = true) (hno : s.cfg.hasFcu = false) :
    exec i s = .next s.illegalOp := by
  obtain ⟨body, hbody⟩ := exists_body_of_needsFcu h
  rw [hbody, State.withFcu_absent body hno]

/-- The contract has two breaches: the pair rule at cursor 15 and the view index rule at index 15. -/
theorem breachCause_cases (i : Instr) (s : State) :
    breachCause i s = .none ∨ (i = .nxf64x2 ∧ s.cursor.val = 15 ∧ breachCause i s = .pairCross) ∨
      (i = .vwf64x2 15#4 ∧ breachCause i s = .viewRange) := by
  cases i with
  | nxf64x2 => by_cases h : s.cursor.val = 15 <;> simp [breachCause, h]
  | vwf64x2 idx => by_cases h : idx = 15#4 <;> simp [breachCause, h]
  | _ => exact .inl rfl

theorem instrCause_of_hasFcu {i : Instr} {s : State} (h : s.cfg.hasFcu = true) : instrCause i s = breachCause i s :=
  if_pos (by simp [Instr.wellFormed, h])

/-- Settles O7: without the FCU the gate gives the outcome of a reserved opcode; with it an instruction ends with the cause
of breaking the contract, if any. -/
theorem fcuCommandsNeedTheFcu : Obligations.FcuCommandsNeedTheFcu := by
  refine fun i => ⟨fieldOp_encode i ▸ needsFcu_iff_opcode_mem i, fun s h => ⟨fun hno => ?_, fun hfcu => ?_⟩⟩
  · have hexec := exec_eq_illegalOp_of_needsFcu h hno
    exact ⟨_, hexec, s.illegalOp_raises, rfl, hexec.trans (command_of_reserved (.inl (by decide)) s).symm⟩
  · obtain ⟨t, ht, answers, raises⟩ := exec_endsWith i s
    rw [instrCause_of_hasFcu hfcu] at answers raises
    refine ⟨t, ht, ?_⟩
    rcases breachCause_cases i s with hk | ⟨hi, h15, hk⟩ | ⟨hi, hk⟩ <;> rw [hk] at answers raises
    · exact .inl (answers rfl)
    · exact .inr (.inl ⟨hi, h15, raises nofun⟩)
    · exact .inr (.inr ⟨hi, raises nofun⟩)

/-! ### The assembler (R69, R70) -/

/-- The operand form of an instruction's mnemonic. -/
def asmFormOf : Instr → AsmForm
  | .init1 _ => .oneSeed
  | .init2 _ _ => .twoSeeds
  | .vwu32 _ => .index 0xA#4
  | .vwf32 _ => .index 0xB#4
  | .vwf64 _ => .index 0xC#4
  | .vwf64x2 _ => .index 0xD#4
  | i => .plain i

/-- How many operands a form takes. -/
def asmArities : AsmForm → List Nat
  | .plain _ => [0]
  | .index _ => [1]
  | .oneSeed => [1]
  | .twoSeeds => [2]
  | .new => [0, 1, 2]

/-- The assembler looks a command's mnemonic up in its table. -/
theorem assembleOperands_disassemble (i : Instr) (ns : List Nat) :
    assembleOperands (disassemble i).1 ns = assembleForm (asmFormOf i) ns := by
  cases i <;> rfl

theorem asmArities_asmFormOf (i : Instr) : asmArities (asmFormOf i) = [(disassemble i).2.length] := by
  cases i <;> rfl

theorem assembleForm_of_wrong_count {form : AsmForm} {ns : List Nat} (h : ns.length ∉ asmArities form) :
    assembleForm form ns = .error .operandCount := by
  unfold assembleForm
  split
  case h_8 => rfl
  all_goals exact absurd (by simp [asmArities]) h

theorem asmSeed_toNat (s : Word) : asmSeed s.toNat = .ok s := by
  rw [asmSeed, if_pos (Nat.le_of_lt_succ s.isLt), BitVec.ofNat_toNat, BitVec.setWidth_eq]

theorem asmSeed_of_lt {n : Nat} (h : 4294967295 < n) : asmSeed n = .error .seedRange :=
  if_neg (Nat.not_le.mpr h)

/-- A seed is in range or refused by name. -/
theorem asmSeed_cases (n : Nat) : (∃ s, asmSeed n = .ok s) ∨ asmSeed n = .error .seedRange := by
  unfold asmSeed
  split
  · exact .inl ⟨_, rfl⟩
  · exact .inr rfl

theorem asmIndex_toNat (i : BitVec 4) : asmIndex i.toNat = .ok i := by
  rw [asmIndex, if_pos (Nat.le_of_lt_succ i.isLt), BitVec.ofNat_toNat, BitVec.setWidth_eq]

theorem asmIndex_of_lt {n : Nat} (h : 15 < n) : asmIndex n = .error .indexRange :=
  if_neg (Nat.not_le.mpr h)

theorem asmInit1_of_lt {n : Nat} (h : 4294967295 < n) : asmInit1 n = .error .seedRange := by
  rw [asmInit1, asmSeed_of_lt h]

/-- One seed out of range refuses both, whichever it is. -/
theorem asmInit2_of_lt {n m : Nat} (h : 4294967295 < n ∨ 4294967295 < m) : asmInit2 n m = .error .seedRange := by
  unfold asmInit2
  rcases h with h | h <;> rw [asmSeed_of_lt h]
  rcases asmSeed_cases n with ⟨s, hs⟩ | hs <;> rw [hs]

theorem assembleForm_index_of_lt (op : BitVec 4) {n : Nat} (h : 15 < n) :
    assembleForm (.index op) [n] = .error .indexRange := by
  rw [assembleForm, asmIndex_of_lt h]

theorem asmInit1_toNat (s : Word) : asmInit1 s.toNat = .ok (.init1 s) := by
  rw [asmInit1, asmSeed_toNat]

theorem asmInit2_toNat (s1 s2 : Word) : asmInit2 s1.toNat s2.toNat = .ok (.init2 s1 s2) := by
  rw [asmInit2, asmSeed_toNat, asmSeed_toNat]

theorem assembleForm_index_toNat (op i : BitVec 4) : assembleForm (.index op) [i.toNat] = .ok (viewInstr op i) := by
  rw [assembleForm, asmIndex_toNat]

theorem assembleForm_disassemble (i : Instr) : assembleForm (asmFormOf i) (disassemble i).2 = .ok i := by
  cases i with
  | init1 s => exact asmInit1_toNat s
  | init2 s1 s2 => exact asmInit2_toNat s1 s2
  | vwu32 idx => exact assembleForm_index_toNat 0xA#4 idx
  | vwf32 idx => exact assembleForm_index_toNat 0xB#4 idx
  | vwf64 idx => exact assembleForm_index_toNat 0xC#4 idx
  | vwf64x2 idx => exact assembleForm_index_toNat 0xD#4 idx
  | _ => rfl

/-- Settles O8: the operands of an instruction are in range and of its form's number, and each other list is refused. -/
theorem assemblerInvertsDisassembler : Obligations.AssemblerInvertsDisassembler := by
  refine ⟨fun i => ?_, fun n h => asmInit1_of_lt h, fun n m h => asmInit2_of_lt h, fun m n hm h => ?_, fun i ns h => ?_⟩
  · rw [assembleOperands_disassemble, assembleForm_disassemble]
  · simp only [List.mem_cons, List.not_mem_nil, or_false] at hm
    rcases hm with rfl | rfl | rfl | rfl <;> exact assembleForm_index_of_lt _ h
  · rw [assembleOperands_disassemble, assembleForm_of_wrong_count]
    simpa [asmArities_asmFormOf] using h

/-- The mnemonics of the table are those of the commands, one instruction standing for each, and `NEW`. -/
theorem asmForms_mnemonics :
    asmForms.map Prod.fst =
      [Instr.status, .info, .initd, .init1 0, .init2 0 0, .refill, .nxu32, .nxf32, .nxf64, .nxf64x2, .vwu32 0, .vwf32 0,
        .vwf64 0, .vwf64x2 0].map (fun i => (disassemble i).1) ++ ["NEW".toList] := rfl

theorem lookup_asmForms_eq_none {m : List Char} (hnew : m ≠ "NEW".toList) (hcmd : ∀ i, m ≠ (disassemble i).1) :
    asmForms.lookup m = none := by
  rw [List.lookup_eq_none_iff]
  intro p hp
  rw [bne_iff_ne]
  rintro rfl
  have hmem := asmForms_mnemonics ▸ List.mem_map_of_mem (f := Prod.fst) hp
  rcases List.mem_append.mp hmem with h | h
  · obtain ⟨i, -, hi⟩ := List.mem_map.mp h
    exact hcmd i hi.symm
  · exact hnew (List.mem_singleton.mp h)

/-- Settles O9: `NEW` has the forms of the three constructors and takes at most two operands, and the table has no other
mnemonics. -/
theorem newAssemblesAsTheConstructors : Obligations.NewAssemblesAsTheConstructors := by
  refine ⟨rfl, fun _ => rfl, fun _ _ => rfl, fun ns h => ?_, fun m ns hnew hcmd => ?_⟩
  · refine assembleForm_of_wrong_count (form := .new) ?_
    simp only [asmArities, List.mem_cons, List.not_mem_nil, or_false]
    omega
  · rw [assembleOperands, lookup_asmForms_eq_none hnew hcmd]

end Sys2Proof.Proofs
end

section
/-! PROOFS. One rising edge: the five events of a step, the handshake's acceptance and transfer, the invariant, and what the
ports show of a command in flight (30_encoding.md R55 to R59, R72; 20_memory.md R46, R52). -/

namespace Sys2Proof.Proofs

open Sys2Proof.Machine Sys2Proof.Safety Sys2Proof.Claims

/-! ### The events of a step -/

/-- What one edge from `s` to `t` was. -/
inductive Event (s t : State) : Prop where
  /-- A reset edge. -/
  | reset (hrst : s.pins.rst = true) (ht : t = s.popPins.resetEdge)
  /-- No command in flight, and none offered. -/
  | idle (hrst : s.pins.rst = false) (hrsp : s.rsp = none) (hvalid : s.pins.cmdValid = false) (ht : t = s.popPins.drawn)
  /-- A command was accepted and executed. -/
  | accept (hrst : s.pins.rst = false) (hrsp : s.rsp = none) (hvalid : s.pins.cmdValid = true)
      (ht : command s.pins.cmdWord s.popPins.begin = .next t)
  /-- The command in flight stayed in flight. -/
  | wait (r : Response) (hrst : s.pins.rst = false) (hrsp : s.rsp = some r)
      (hwait : ¬ (s.rspWait = 0 ∧ s.pins.rspReady = true)) (ht : t = s.popPins.waitEdge)
  /-- The pending response was taken. -/
  | transfer (r : Response) (hrst : s.pins.rst = false) (hrsp : s.rsp = some r) (hvalid : s.rspWait = 0)
      (hready : s.pins.rspReady = true) (ht : t = s.popPins.transfer r)

/-- Every step is one of the five events. -/
theorem event_of_step {s t : State} (h : step s = .next t) : Event s t := by
  rcases edge_cases s.pins s.popPins with
    ⟨hrst, he⟩ | ⟨hrst, hrsp, hv, he⟩ | ⟨hrst, hrsp, hv, he⟩ | ⟨hrst, r, hrsp, ⟨hw, he⟩ | ⟨hw, hy, he⟩⟩ <;>
    have ht := he.symm.trans h
  · exact .reset hrst (Host.Outcome.next.inj ht).symm
  · exact .idle hrst hrsp hv (Host.Outcome.next.inj ht).symm
  · exact .accept hrst hrsp hv ht
  · exact .wait r hrst hrsp hw (Host.Outcome.next.inj ht).symm
  · exact .transfer r hrst hrsp hw hy (Host.Outcome.next.inj ht).symm

theorem effect_of_command {w : CmdWord} {s t : State} (h : command w s = .next t) : CommandEffect s t := by
  obtain ⟨t', ht', effect⟩ := command_effect w s
  obtain rfl := Host.Outcome.next.inj (h.symm.trans ht')
  exact effect

theorem effect_of_exec {i : Instr} {s t : State} (h : exec i s = .next t) : CommandEffect s t := by
  obtain ⟨t', ht', effect⟩ := exec_effect i s
  obtain rfl := Host.Outcome.next.inj (h.symm.trans ht')
  exact effect

theorem sameElsewhere_of_effect {s t : State} (h : CommandEffect s t) : SameElsewhere s t := by
  rcases h with ⟨d, answers⟩ | ⟨k, -, raises⟩
  · exact answers.elsewhere
  · exact raises.elsewhere

theorem rsp_of_effect {s t : State} (h : CommandEffect s t) : ∃ r, t.rsp = some r := by
  rcases h with ⟨d, answers⟩ | ⟨k, -, raises⟩
  · exact ⟨_, answers.rsp⟩
  · obtain ⟨r, hr, -⟩ := Option.map_eq_some_iff.mp raises.rspErr
    exact ⟨r, hr⟩

theorem busy_of_effect {s t : State} (h : CommandEffect s t) : t.busy = true :=
  (busy_eq_true_iff t).mpr (rsp_of_effect h)

theorem busy_of_rsp_some {s : State} {r : Response} (h : s.rsp = some r) : s.busy = true :=
  (busy_eq_true_iff s).mpr ⟨r, h⟩

theorem busy_of_rsp_none {s : State} (h : s.rsp = none) : s.busy = false := by
  rw [State.busy, h, Option.isSome_none]

theorem rsp_none_of_not_busy {s : State} (h : s.busy = false) : s.rsp = none :=
  Option.isNone_iff_eq_none.mp (Option.isSome_eq_false_iff.mp h)

/-! ### Acceptance and transfer (R56 to R58) -/

/-- Settles O10: the accepted word is executed in the state that `begin` makes of the one whose sample is used up. -/
theorem stepRunsTheDecodedInstruction : Obligations.StepRunsTheDecodedInstruction := by
  intro s p ps i hhost hrst hv hr hdec
  have hpins : s.pins = p := by rw [State.pins, hhost]; rfl
  rw [step_accept hr (hpins ▸ hrst) (hpins ▸ hv), hpins, command_of_decode hdec, State.popPins, hhost]
  rfl

/-- An edge that does not accept a command does not read the word. -/
theorem edge_cmdWord_irrelevant {p : Pins} {s : State} (w : CmdWord)
    (h : ¬ (p.rst = false ∧ p.cmdValid = true ∧ s.rsp = none)) : edge p s = edge { p with cmdWord := w } s := by
  unfold edge
  cases hrst : p.rst with
  | true => rfl
  | false =>
    cases hrsp : s.rsp with
    | some r => rfl
    | none =>
      cases hv : p.cmdValid with
      | true => exact absurd ⟨hrst, hv, hrsp⟩ h
      | false => rfl

/-- An edge of an idle block makes it busy exactly by acceptance. -/
theorem busy_after_idle_iff {s t : State} (hidle : s.busy = false) (ht : step s = .next t) :
    t.busy = true ↔ s.pins.rst = false ∧ s.pins.cmdValid = true := by
  cases event_of_step ht with
  | reset hrst ht => subst ht; simp [State.busy, hrst]
  | idle hrst hrsp hvalid ht => subst ht; simp [State.busy, hrsp, hvalid]
  | accept hrst hrsp hvalid ht => simp [busy_of_effect (effect_of_command ht), hrst, hvalid]
  | wait r hrst hrsp hwait ht => simp [busy_of_rsp_some hrsp] at hidle
  | transfer r hrst hrsp hvalid hready ht => simp [busy_of_rsp_some hrsp] at hidle

/-- Settles O12: an idle block becomes busy by acceptance only, acceptance executes the word, and no other edge reads it. -/
theorem commandWordSampledOnlyAtAcceptance : Obligations.CommandWordSampledOnlyAtAcceptance := by
  refine ⟨fun s hidle => ?_, fun s hready hv => ?_, fun s p ps w hhost h => ?_⟩
  · obtain ⟨t, ht⟩ := step_next s
    refine ⟨t, ht, ?_⟩
    rw [busy_after_idle_iff hidle ht, cmdReady_eq_true_iff]
    simp +contextual [hidle]
  · obtain ⟨hidle, hrst⟩ := (cmdReady_eq_true_iff s).mp hready
    obtain ⟨t, ht⟩ := step_next s
    exact ⟨t, ht, (step_accept (rsp_none_of_not_busy hidle) hrst hv).symm.trans ht⟩
  · have hpins : s.pins = p := by rw [State.pins, hhost]; rfl
    have notAccepted : ¬ (p.rst = false ∧ p.cmdValid = true ∧ s.popPins.rsp = none) := fun ⟨hrst, hv, hrsp⟩ =>
      h ⟨hrst, hv, (cmdReady_eq_true_iff s).mpr ⟨busy_of_rsp_none hrsp, hpins ▸ hrst⟩⟩
    rw [step, hpins, edge_cmdWord_irrelevant w notAccepted, State.popPins, hhost]
    rfl

/-- Settles O14: the response on the ports is the pending one, and the transfer appends it and leaves the block. -/
theorem transferDeliversTheResponseOnThePorts : Obligations.TransferDeliversTheResponseOnThePorts := by
  intro s hvalid hready
  obtain ⟨hbusy, hwait, hrst⟩ := (rspValid_eq_true_iff s).mp hvalid
  obtain ⟨r, hr⟩ := (busy_eq_true_iff s).mp hbusy
  obtain ⟨hdata, herr⟩ := ports_of_rspValid hr hvalid
  exact ⟨_, step_transfer hr hrst ⟨hwait, hready⟩, rfl, by rw [hdata, herr]; rfl, ⟨⟨rfl, rfl⟩, rfl, rfl, rfl, rfl⟩⟩

/-! ### What no edge writes (R28, R29, R31) -/

/-- Settles O54: commands leave the ROMs and constants alone, and so does every other event. -/
theorem romsAndConstantsNeverChange : Obligations.RomsAndConstantsNeverChange := by
  intro s
  obtain ⟨t, ht⟩ := step_next s
  refine ⟨t, ht, ?_⟩
  cases event_of_step ht with
  | accept hrst hrsp hvalid ht =>
    have same := sameElsewhere_of_effect (effect_of_command ht)
    exact ⟨same.rom, same.cfg⟩
  | reset _ ht | idle _ _ _ ht | wait _ _ _ _ ht | transfer _ _ _ _ _ ht => subst ht; exact ⟨rfl, rfl⟩

/-! ### The invariant -/

/-- A block without a command in flight, an error or a delivered response has the invariant. -/
theorem inv_of_fresh {s : State} (herr : s.err = false) (hcause : s.errCause = .none) (hrsp : s.rsp = none)
    (hdel : s.delivered = []) (hbefore : s.errBefore = false) : Inv s where
  cause := by simp [herr, hcause]
  record := by simp [herr, hrsp, hdel]
  wait h := by simp [busy_of_rsp_none hrsp] at h
  sticky h := by simp [hbefore] at h
  commit h := by simp [busy_of_rsp_none hrsp] at h
  whole h := by simp [busy_of_rsp_none hrsp] at h

/-- Settles O55: the reset state is fresh. -/
theorem resetHasTheInvariant : Obligations.ResetHasTheInvariant := inv_of_fresh rfl rfl rfl rfl rfl

/-- What acceptance sets up and every command leaves alone: the drawn waits are in their windows. -/
theorem waits_of_begin {s t : State} (h : SameElsewhere s.begin t) :
    t.rspWait < t.cfg.lat ∧ t.commitWait ≤ t.rspWait + 1 := by
  rw [h.rspWait, h.commitWait, h.cfg]
  exact ⟨Nat.mod_lt _ s.cfg.latMinusOne.succ_pos, Nat.le_of_lt_succ (Nat.mod_lt _ (Nat.succ_pos _))⟩

/-- An accepted command that answers: `ERR` stays as it was, so the record does. -/
theorem inv_of_answers {s t : State} {d : DWord} (h : Inv s) (hrsp : s.rsp = none) (ha : Answers s.begin t d) : Inv t where
  cause := by rw [ha.err, ha.errCause]; exact h.cause
  record := by
    rw [ha.err, ha.elsewhere.delivered, ha.rsp]
    simpa [hrsp] using h.record
  wait _ := (waits_of_begin ha.elsewhere).1
  sticky := by rw [ha.elsewhere.errBefore, ha.err]; exact id
  commit _ := (waits_of_begin ha.elsewhere).2
  whole _ := .inr (ha.elsewhere.errBefore.trans ha.err.symm)

/-- An accepted command that fails: `ERR` is set with a cause, its response says so, and the lanes stay as they were. -/
theorem inv_of_raises {s t : State} {k : ErrCause} (h : Inv s) (hk : k ≠ .none) (hr : Raises s.begin t k) : Inv t where
  cause := by
    refine iff_of_false (by simp [hr.err]) ?_
    cases herr : s.err with
    | false => rwa [hr.first herr]
    | true => rw [hr.kept herr]; exact fun hnone => by simp [h.cause.mpr hnone] at herr
  record := by
    obtain ⟨r, hrsp, herr⟩ := Option.map_eq_some_iff.mp hr.rspErr
    exact iff_of_true hr.err ⟨r, by simp [hrsp], herr⟩
  wait _ := (waits_of_begin hr.elsewhere).1
  sticky _ := hr.err
  commit _ := (waits_of_begin hr.elsewhere).2
  whole _ := .inl (hr.elsewhere.lanesBefore.trans hr.buffer.lanes.symm)

theorem inv_popPins {s : State} (h : Inv s) : Inv s.popPins :=
  ⟨h.cause, h.record, h.wait, h.sticky, h.commit, h.whole⟩

theorem inv_drawn {s : State} (h : Inv s) : Inv s.drawn :=
  ⟨h.cause, h.record, h.wait, h.sticky, h.commit, h.whole⟩

theorem inv_waitEdge {s : State} (h : Inv s) : Inv s.waitEdge where
  cause := h.cause
  record := h.record
  wait hb := Nat.lt_of_le_of_lt (Nat.sub_le _ _) (h.wait hb)
  sticky := h.sticky
  commit hb := by
    have := h.commit hb
    simp only [State.waitEdge_commitWait, State.waitEdge_rspWait]
    omega
  whole := h.whole

/-- The taken response moves from the pending to the delivered ones. -/
theorem inv_transfer {s : State} {r : Response} (h : Inv s) (hr : s.rsp = some r) : Inv (s.transfer r) where
  cause := h.cause
  record := by simpa [hr] using h.record
  wait hb := by cases hb
  sticky := h.sticky
  commit hb := by cases hb
  whole hb := by cases hb

/-- Settles O56: each of the five events keeps the invariant, acceptance for an answer and for an error. -/
theorem everyStepKeepsTheInvariant : Obligations.EveryStepKeepsTheInvariant := by
  intro s t hinv hstep
  have h := inv_popPins hinv
  cases event_of_step hstep with
  | reset hrst ht => subst ht; exact inv_of_fresh rfl rfl rfl rfl rfl
  | idle hrst hrsp hvalid ht => subst ht; exact inv_drawn h
  | accept hrst hrsp hvalid ht =>
    rcases effect_of_command ht with ⟨d, answers⟩ | ⟨k, hk, raises⟩
    · exact inv_of_answers h hrsp answers
    · exact inv_of_raises h hk raises
  | wait r hrst hrsp hwait ht => subst ht; exact inv_waitEdge h
  | transfer r hrst hrsp hvalid hready ht => subst ht; exact inv_transfer h hrsp

/-! ### `buf_view` (R42, R52, R115) -/

/-- The first word stands on the low 32 bits, the others above it. -/
theorem getLsbD_packWords_cons (x : Word) (xs : List Word) {n : Nat} (h : n < 512) :
    (packWords (x :: xs)).getLsbD n = if n < 32 then x.getLsbD n else (packWords xs).getLsbD (n - 32) := by
  rw [packWords, BitVec.getLsbD_or, BitVec.getLsbD_shiftLeft, BitVec.getLsbD_setWidth]
  split
  case isTrue hlt => simp [h, hlt]
  case isFalse hge => simp [h, hge, BitVec.getLsbD_of_ge x n (Nat.not_lt.mp hge)]

/-- Word `i` stands on bits `[32*i+31 : 32*i]`. -/
theorem getLsbD_packWords (xs : List Word) (i j : Nat) (hi : i < xs.length) (hj : j < 32) (h : 32 * i + j < 512) :
    (packWords xs).getLsbD (32 * i + j) = xs[i].getLsbD j := by
  induction xs generalizing i with
  | nil => cases hi
  | cons x xs ih =>
    rw [getLsbD_packWords_cons x xs h]
    cases i with
    | zero => simp [hj]
    | succ i =>
      rw [if_neg (by omega), show 32 * (i + 1) + j - 32 = 32 * i + j by omega, ih i (Nat.lt_of_succ_lt_succ hi) (by omega)]
      rfl

theorem extractLsb'_packLanes (l : Lanes) (i : Nat) (h : i < 16) : (packLanes l).extractLsb' (32 * i) 32 = l[i] := by
  apply BitVec.eq_of_getLsbD_eq
  intro j hj
  have hi : i < l.toList.length := by simp [h]
  rw [BitVec.getLsbD_extractLsb', packLanes, getLsbD_packWords l.toList i j hi hj (by omega)]
  simp [hj]

/-- A sample of `buf_view` packs the present lanes, or, while busy, perhaps those recorded before the command. -/
theorem bufView_cases (s : State) :
    s.bufView = packLanes s.lanes ∨ (s.busy = true ∧ s.bufView = packLanes s.lanesBefore) := by
  unfold State.bufView
  split
  case isTrue hold => exact .inr ⟨(Bool.and_eq_true_iff.mp hold).1, rfl⟩
  case isFalse => exact .inl rfl

theorem bufView_of_not_busy {s : State} (h : s.busy = false) : s.bufView = packLanes s.lanes := by
  simp [State.bufView, State.showsOld, h]

/-- The records of a command in flight are those of the state it was accepted in, and nothing changes while it waits. -/
theorem records_of_busy {s t : State} (hstep : step s = .next t) (hb : t.busy = true) :
    t.errBefore = (if s.busy then s.errBefore else s.err) ∧
    t.lanesBefore = (if s.busy then s.lanesBefore else s.lanes) ∧
    (s.busy = true → t.err = s.err ∧ t.lanes = s.lanes) := by
  cases event_of_step hstep with
  | reset hrst ht => subst ht; cases hb
  | idle hrst hrsp hvalid ht => subst ht; rw [State.busy, State.drawn_rsp, State.popPins_rsp, hrsp] at hb; cases hb
  | accept hrst hrsp hvalid ht =>
    have same := sameElsewhere_of_effect (effect_of_command ht)
    simp [busy_of_rsp_none hrsp, same.errBefore, same.lanesBefore]
  | wait r hrst hrsp hwait ht => subst ht; simp [busy_of_rsp_some hrsp]
  | transfer r hrst hrsp hvalid hready ht => subst ht; cases hb

/-- Settles O15: a sample packs one set of lanes, whose slices are the lanes. -/
theorem bufViewShowsTheLanes : Obligations.BufViewShowsTheLanes := by
  refine fun s => ⟨fun hidle i h => ?_, fun _ => ?_, fun t hstep hb => ?_⟩
  · rw [bufView_of_not_busy hidle, extractLsb'_packLanes]
  · rcases bufView_cases s with h | ⟨-, h⟩ <;> rw [h]
    · exact .inl (extractLsb'_packLanes _)
    · exact .inr (extractLsb'_packLanes _)
  · obtain ⟨-, hlanes, hkept⟩ := records_of_busy hstep hb
    exact ⟨hlanes, fun hs => (hkept hs).2⟩

/-! ### `err` (R25, R55, R72, R141) -/

theorem errPort_of_committed {s : State} (h : s.commitWait = 0) : s.errPort = s.err := by
  simp [State.errPort_eq, h]

theorem errPort_of_not_busy {s : State} (h : s.busy = false) : s.errPort = s.err := by
  simp [State.errPort_eq, h]

theorem errPort_of_busy {s : State} (h : s.busy = true) :
    s.errPort = if s.commitWait = 0 then s.err else s.errBefore := by
  by_cases hc : s.commitWait = 0 <;> simp [State.errPort_eq, h, hc]

/-- `err` is `ERR`, or, while busy, perhaps the `ERR` recorded before the command. -/
theorem errPort_cases (s : State) : s.errPort = s.err ∨ (s.busy = true ∧ s.errPort = s.errBefore) := by
  rw [State.errPort_eq]
  split
  case isTrue h => exact .inr ⟨h.1, rfl⟩
  case isFalse => exact .inl rfl

/-- Settles O16: a command in flight leaves the lanes or `ERR` as they were, so on one of the two ports the old and the new
are the same, and the other port decides. -/
theorem portsShowWholeCommandsOnly : Obligations.PortsShowWholeCommandsOnly := by
  refine fun s => ⟨fun hinv => ?_, fun t hstep hb => records_of_busy hstep hb⟩
  rcases bufView_cases s with hview | ⟨hb, hview⟩ <;> rcases errPort_cases s with herr | ⟨hb', herr⟩
  · exact .inl ⟨hview, herr⟩
  · rcases hinv.whole hb' with hlanes | hsame
    · exact .inr ⟨hb', hlanes ▸ hview, herr⟩
    · exact .inl ⟨hview, hsame ▸ herr⟩
  · rcases hinv.whole hb with hlanes | hsame
    · exact .inl ⟨hlanes ▸ hview, herr⟩
    · exact .inr ⟨hb, hview, hsame ▸ herr⟩
  · exact .inr ⟨hb, hview, herr⟩

section
variable {s t : State} (hinv : Inv s) (hstep : step s = .next t) (hrst : s.pins.rst = false)
include hstep hrst

include hinv in
/-- An edge at which `rsp_valid` is 1 is past the commit edge. -/
theorem errPort_after_valid (hv : s.rspValid = true) : t.errPort = t.err ∧ t.err = s.err := by
  obtain ⟨hbusy, hwait, -⟩ := (rspValid_eq_true_iff s).mp hv
  obtain ⟨r, hr⟩ := (busy_eq_true_iff s).mp hbusy
  have hcommit := hinv.commit hbusy
  by_cases hready : s.rspWait = 0 ∧ s.pins.rspReady = true
  · obtain rfl := Host.Outcome.next.inj ((step_transfer hr hrst hready).symm.trans hstep)
    exact ⟨errPort_of_committed rfl, rfl⟩
  · obtain rfl := Host.Outcome.next.inj ((step_wait hr hrst hready).symm.trans hstep)
    exact ⟨errPort_of_committed (by simp only [State.waitEdge_commitWait, State.popPins_commitWait]; omega), rfl⟩

theorem commitWait_stays_zero (hb : s.busy = true) (hc : s.commitWait = 0) : t.commitWait = 0 := by
  obtain ⟨r, hr⟩ := (busy_eq_true_iff s).mp hb
  by_cases hready : s.rspWait = 0 ∧ s.pins.rspReady = true
  · obtain rfl := Host.Outcome.next.inj ((step_transfer hr hrst hready).symm.trans hstep)
    rfl
  · obtain rfl := Host.Outcome.next.inj ((step_wait hr hrst hready).symm.trans hstep)
    simp [hc]

include hinv in
/-- Without reset `err` does not fall: it shows a 1 that is recorded both before and after any command in flight. -/
theorem errPort_stays_true (herr : s.errPort = true) : t.errPort = true := by
  have hs : s.err = true := by
    rcases errPort_cases s with h | ⟨-, h⟩
    · rw [← h, herr]
    · exact hinv.sticky (h ▸ herr)
  obtain ⟨t', ht', hterr, -⟩ := errorIsStickyUntilReset s hs hrst
  obtain rfl := Host.Outcome.next.inj (hstep.symm.trans ht')
  rcases errPort_cases t with h | ⟨hb, h⟩
  · rw [h, hterr]
  · obtain ⟨hbefore, -, -⟩ := records_of_busy hstep hb
    rw [h, hbefore]
    split
    case isFalse => exact hs
    case isTrue hsb =>
      by_cases hc : s.commitWait = 0
      · rw [← hterr, ← errPort_of_committed (commitWait_stays_zero hstep hrst hsb hc), h, hbefore, if_pos hsb]
      · rw [← herr, errPort_of_busy hsb, if_neg hc]

end

/-- Settles O17: the level of `err` by the commit edge, its bound, and that it does not fall. -/
theorem errPortIsTheLevelOfErr : Obligations.ErrPortIsTheLevelOfErr := fun _ hinv =>
  ⟨errPort_of_not_busy, errPort_of_busy, fun _ hstep hrst =>
    ⟨errPort_after_valid hinv hstep hrst, fun hb _ => commitWait_stays_zero hstep hrst hb,
      errPort_stays_true hinv hstep hrst⟩⟩

end Sys2Proof.Proofs
end

section
/-! PROOFS. What seeding leaves: the steps as bijections, the closed forms of the loops, the reset values, and what a seeding
command reads (00_scope.md R5; 10_state.md R34, R35; 40_seeding.md R76 to R81; 70_reset_and_hazards.md R152). -/

namespace Sys2Proof.Proofs

open Sys2Proof.Machine Sys2Proof.Safety Sys2Proof.Claims

/-! ### The steps are bijections (R5) -/

/-- A step whose multiplier has the inverse `n` is undone by taking the increment away and multiplying by `n`. -/
theorem lcgStep_bijective {m n : Word} (c : Word) (h : n * m = 1#32) : Function.Bijective fun x => lcgStep x m c := by
  refine Function.bijective_iff_has_inverse.mpr ⟨fun y => n * (y - c), fun x => ?_, fun y => ?_⟩
  · change n * (c + m * x - c) = x
    rw [BitVec.add_comm c, BitVec.add_sub_cancel, ← BitVec.mul_assoc, h, BitVec.one_mul]
  · change c + m * (n * (y - c)) = y
    rw [← BitVec.mul_assoc, BitVec.mul_comm m, h, BitVec.one_mul, BitVec.add_comm, BitVec.sub_add_cancel]

theorem stepA_bijective : Function.Bijective stepA :=
  lcgStep_bijective (n := 1582706837#32) 14567#32 (by decide)

theorem stepB_bijective : Function.Bijective stepB :=
  lcgStep_bijective (n := 3064962541#32) 12345#32 (by decide)

/-- Settles O22: the odd multipliers have inverses modulo 2^32. -/
theorem seedingStepsAreBijective : Obligations.SeedingStepsAreBijective := ⟨stepA_bijective, stepB_bijective⟩

/-! ### Closed forms (R35, R76, R77) -/

theorem getElem_seedOne_eq_iterate (s : Word) (i : Nat) (h : i < 16) : (seedOne s)[i] = stepA^[i + 2] s := by
  rw [getElem_seedOne, loopOutput_eq_iterate, ← Function.iterate_succ_apply]

/-- The prestep is one more iteration. -/
theorem loopOutput_prestep (f : Word → Word) (p : Bool) (k : Nat) (w : Word) :
    loopOutput f k (if p then f w else w) = f^[k + 1 + (if p then 1 else 0)] w := by
  rw [loopOutput_eq_iterate]
  cases p with
  | false => rfl
  | true => exact (Function.iterate_succ_apply f (k + 1) w).symm

/-- Settles O26: both loops store iterates of their step, the first of them after the derived seed or the prestep. -/
theorem seedingClosedForms : Obligations.SeedingClosedForms := by
  refine ⟨fun seed s t ht i h => ?_, fun s1 s2 s t ht k h => ⟨?_, ?_⟩⟩
  · obtain rfl := Host.Outcome.next.inj ((exec_init1 seed s).symm.trans ht)
    exact getElem_seedOne_eq_iterate seed i h
  · obtain rfl := Host.Outcome.next.inj ((exec_init2 s1 s2 s).symm.trans ht)
    exact (getElem_seedTwo_even _ s1 s2 k (by omega)).trans (loopOutput_prestep stepA _ k s1)
  · obtain rfl := Host.Outcome.next.inj ((exec_init2 s1 s2 s).symm.trans ht)
    exact (getElem_seedTwo_odd _ s1 s2 k (by omega)).trans (loopOutput_prestep stepB _ k s2)

/-- Settles O18: the table of R35 is what INITD's loop computes, whose lanes are iterates; the rest is read off. -/
theorem resetStateHoldsTheSpecsValues : Obligations.ResetStateHoldsTheSpecsValues := by
  refine ⟨fun i h => ?_, rfl, rfl, rfl, rfl, rfl, rfl⟩
  change resetLanes[i] = _
  simp only [resetLanes_eq_seedOne_zero]
  exact getElem_seedOne_eq_iterate 0 i h

/-! ### What a seeding command reads and leaves (R79, R81, R152) -/

/-- Lane 0 is an injective function of the first seed. -/
theorem seedTwo_lane_zero_injective (p : Bool) {a b c d : Word} (h : (seedTwo p a c)[0] = (seedTwo p b d)[0]) : a = b := by
  rw [seedTwo_first_even, seedTwo_first_even] at h
  have hworking := stepA_bijective.injective h
  cases p with
  | false => exact hworking
  | true => exact stepA_bijective.injective hworking

/-- Settles O27: lane 0 tells the first seed, so the two orders differ there. -/
theorem init2DependsOnSeedOrder : Obligations.Init2DependsOnSeedOrder := by
  refine fun s1 s2 s hne => ⟨_, _, exec_init2 s1 s2 s, exec_init2 s2 s1 s, fun hlanes => hne ?_⟩
  exact seedTwo_lane_zero_injective s.cfg.init2Prestep (congrArg (fun l : Lanes => l[0]) hlanes)

/-- Two blocks that load the same lanes hold the same buffer. -/
theorem loadLanes_sameBuffer (s s' : State) (l : Lanes) (d : DWord) :
    SameBuffer ((s.loadLanes l).respond d) ((s'.loadLanes l).respond d) := ⟨rfl, rfl⟩

/-- Settles O28: each seeding command loads lanes made of its operands, INIT2 of the prestep parameter too. -/
theorem seedingReadsNeitherLanesNorCursor : Obligations.SeedingReadsNeitherLanesNorCursor := by
  rintro i s s' (⟨seed, rfl⟩ | rfl | ⟨s1, s2, rfl, hpre⟩)
  · exact ⟨_, _, exec_init1 seed s, exec_init1 seed s', loadLanes_sameBuffer s s' _ 0⟩
  · exact ⟨_, _, (exec_initd s).trans (exec_init1 0 s), (exec_initd s').trans (exec_init1 0 s'),
      loadLanes_sameBuffer s s' _ 0⟩
  · refine ⟨_, _, exec_init2 s1 s2 s, exec_init2 s1 s2 s', ?_⟩
    rw [hpre]
    exact loadLanes_sameBuffer s s' _ 0

/-- Settles O20: INITD loads the reset lanes, and with `ERR` 0 the invariant fixes the cause. -/
theorem initdLeavesTheResetState : Obligations.InitdLeavesTheResetState := by
  intro s hinv herr
  obtain ⟨t, ht, -, -, -, hcursor, answers⟩ := initdIsInit1OfZero.2 s
  exact ⟨t, ht, lanes_of_exec_initd ht, Fin.ext hcursor, answers.err.trans herr,
    answers.errCause.trans (hinv.cause.mp herr)⟩

end Sys2Proof.Proofs
end

section
/-! PROOFS. The output stage: FOLD bit by bit, and the patterns of the float-conversion unit as sign, exponent and fraction
put together (42_extract.md R93 to R97, R104). -/

namespace Sys2Proof.Proofs

open Sys2Proof.Machine Sys2Proof.Safety Sys2Proof.Claims

/-! ### FOLD (R93) -/

theorem getLsbD_fold (x : Word) (i : Nat) : (fold x).getLsbD i = (x.getLsbD i ^^ x.getLsbD (24 + i)) := by
  rw [fold, BitVec.getLsbD_xor, BitVec.getLsbD_ushiftRight]

/-- Bit 8 and those above have nothing 24 places higher. -/
theorem getLsbD_fold_of_le (x : Word) {i : Nat} (h : 8 ≤ i) : (fold x).getLsbD i = x.getLsbD i := by
  rw [getLsbD_fold, BitVec.getLsbD_of_ge x (24 + i) (by omega), Bool.xor_false]

theorem fold_involutive : Function.Involutive fold := by
  intro x
  apply BitVec.eq_of_getLsbD_eq
  intro i _
  rw [getLsbD_fold (fold x), getLsbD_fold_of_le x (i := 24 + i) (by omega), getLsbD_fold, Bool.xor_assoc, Bool.xor_self,
    Bool.xor_false]

/-- Settles O34: FOLD bit by bit; the high byte passes unchanged, so a second FOLD takes it away again. -/
theorem foldMixesHighByteIntoLowByte : Obligations.FoldMixesHighByteIntoLowByte := by
  refine ⟨fun x => ⟨rfl, ?_, ?_, fold_involutive x⟩, fold_involutive.bijective⟩
  · apply BitVec.eq_of_getLsbD_eq
    intro i _
    rw [BitVec.getLsbD_extractLsb', BitVec.getLsbD_extractLsb', getLsbD_fold_of_le x (Nat.le_add_right 8 i)]
  · apply BitVec.eq_of_getLsbD_eq
    intro i hi
    simp [getLsbD_fold, hi]

/-! ### Patterns of numbers in [1, 2) -/

/-- The binary32 pattern with sign 0, the exponent field of 1.0 and fraction `f`. -/
def pattern32 (f : BitVec 23) : Word := 0#1 ++ 127#8 ++ f

/-- The binary64 pattern with sign 0, the exponent field of 1.0 and fraction `f`. -/
def pattern64 (f : BitVec 52) : DWord := 0#1 ++ 1023#11 ++ f

section
variable (f : BitVec 23)

theorem pattern32_sign : (pattern32 f).getLsbD 31 = false := by
  rw [pattern32, getLsbD_append_of_le (by decide), getLsbD_append_of_le (by decide)]
  rfl

theorem pattern32_exponent : (pattern32 f).extractLsb' 23 8 = 127#8 := by
  rw [pattern32, BitVec.extractLsb'_append_eq_of_le (by decide)]
  exact BitVec.extractLsb'_append_eq_right

theorem pattern32_fraction : (pattern32 f).extractLsb' 0 23 = f := BitVec.extractLsb'_append_eq_right

end

section
variable (f : BitVec 52)

theorem pattern64_sign : (pattern64 f).getLsbD 63 = false := by
  rw [pattern64, getLsbD_append_of_le (by decide), getLsbD_append_of_le (by decide)]
  rfl

theorem pattern64_exponent : (pattern64 f).extractLsb' 52 11 = 1023#11 := by
  rw [pattern64, BitVec.extractLsb'_append_eq_of_le (by decide)]
  exact BitVec.extractLsb'_append_eq_right

theorem pattern64_fraction : (pattern64 f).extractLsb' 0 52 = f := BitVec.extractLsb'_append_eq_right

end

/-- A field inside the fraction is a field of the fraction. -/
theorem pattern64_extractLsb' (f : BitVec 52) (a n : Nat) (h : a + n ≤ 52) :
    (pattern64 f).extractLsb' a n = f.extractLsb' a n :=
  BitVec.extractLsb'_append_eq_of_add_le h

/-- With the exponent field of 1.0 the number is 1 and the fraction. -/
theorem normalValue_of_bias (f p bias top : Nat) (h0 : bias ≠ 0) (htop : bias ≠ top) :
    normalValue false bias f p bias top = some (1 + (f : ℚ) / 2 ^ p) := by
  simp [normalValue, h0, htop]

theorem bitsF32_pattern32 (f : BitVec 23) : bitsF32 (pattern32 f) = some (1 + (f.toNat : ℚ) / 2 ^ 23) := by
  rw [bitsF32, pattern32_sign, pattern32_exponent, pattern32_fraction]
  exact normalValue_of_bias _ 23 127 255 (by decide) (by decide)

theorem bitsF64_pattern64 (f : BitVec 52) : bitsF64 (pattern64 f) = some (1 + (f.toNat : ℚ) / 2 ^ 52) := by
  rw [bitsF64, pattern64_sign, pattern64_exponent, pattern64_fraction]
  exact normalValue_of_bias _ 52 1023 2047 (by decide) (by decide)

/-- A number with a fraction below 1 added to 1 lies in [1, 2). -/
theorem one_add_fraction_mem {p : Nat} (f : BitVec p) :
    1 ≤ 1 + (f.toNat : ℚ) / 2 ^ p ∧ 1 + (f.toNat : ℚ) / 2 ^ p < 2 := by
  have hpos : (0 : ℚ) < 2 ^ p := by positivity
  have hlt : (f.toNat : ℚ) < 2 ^ p := by exact_mod_cast f.isLt
  have hdiv : (f.toNat : ℚ) / 2 ^ p < 1 := (div_lt_one hpos).mpr hlt
  have hnonneg : (0 : ℚ) ≤ (f.toNat : ℚ) / 2 ^ p := by positivity
  constructor <;> linarith

/-! ### The patterns the FCU builds (R94 to R96) -/

/-- The fraction of `FCU64X2`: both words mixed (R96). -/
def pairFraction (v1 v2 : Word) : BitVec 52 := (v1 ++ 0#20) ^^^ (v2 >>> 4).setWidth 52

theorem fcu32_eq_pattern32 (x : Word) : fcu32 x = pattern32 (x.extractLsb' 9 23) := by
  have hone : 0x3F800000#32 = (0#1 ++ 127#8 : BitVec 9) ++ 0#23 := by decide
  have hshift : x >>> 9 = 0#9 ++ x.extractLsb' 9 23 := BitVec.ushiftRight_eq_extractLsb'_of_lt (n := 9) (by decide)
  rw [fcu32, pattern32, hone, hshift, BitVec.or_append, BitVec.or_zero, BitVec.zero_or]

/-- A word with nothing above bit 51 is a fraction put under the exponent of 1.0. -/
theorem one_or_eq_pattern64 (f : BitVec 52) : 0x3FF0000000000000#64 ||| f.setWidth 64 = pattern64 f := by
  have hone : 0x3FF0000000000000#64 = (0#1 ++ 1023#11 : BitVec 12) ++ 0#52 := by decide
  have hwide : f.setWidth 64 = 0#12 ++ f := BitVec.setWidth_eq_append (by decide)
  rw [hone, hwide, pattern64, BitVec.or_append, BitVec.or_zero, BitVec.zero_or]

theorem shift_eq_append (y : Word) : y.setWidth 64 <<< 20 = (y ++ 0#20).setWidth 64 := by
  rw [BitVec.setWidth_append_eq_shiftLeft_setWidth_or, BitVec.setWidth_zero, BitVec.or_zero]

theorem fcu64_eq_pattern64 (y : Word) : fcu64 y = pattern64 (y ++ 0#20) := by
  rw [fcu64, shift_eq_append, one_or_eq_pattern64]

/-- A word shifted right by 4 fits the fraction. -/
theorem setWidth_ushiftRight_four (v : Word) : ((v >>> 4).setWidth 52).setWidth 64 = (v >>> 4).setWidth 64 :=
  BitVec.setWidth_setWidth (by decide)

theorem fcu64x2_eq_pattern64 (v1 v2 : Word) : fcu64x2 v1 v2 = pattern64 (pairFraction v1 v2) := by
  have hmix : (v1.setWidth 64 <<< 20) ^^^ (v2 >>> 4).setWidth 64 = (pairFraction v1 v2).setWidth 64 := by
    rw [shift_eq_append, pairFraction, BitVec.setWidth_xor, setWidth_ushiftRight_four v2]
  rw [fcu64x2, hmix, one_or_eq_pattern64]

/-! ### The fields of the FCU's patterns (R94 to R96) -/

section
variable (v1 v2 : Word)

/-- A field of the mixed fraction is the mix of the two fields. -/
theorem pairFraction_extractLsb' (a n : Nat) (h : a + n ≤ 52) :
    (pairFraction v1 v2).extractLsb' a n = (v1 ++ 0#20).extractLsb' a n ^^^ v2.extractLsb' (4 + a) n := by
  apply BitVec.eq_of_getLsbD_eq
  intro i hi
  have hlt : a + i < 52 := by omega
  have hfits : v2.getLsbD (4 + (a + i)) = true → 4 + (a + i) < 52 := fun h => by
    have := BitVec.lt_of_getLsbD h
    omega
  simpa [pairFraction, hi, hlt, Nat.add_assoc] using hfits

theorem pairFraction_high : (pairFraction v1 v2).extractLsb' 28 24 = v1.extractLsb' 8 24 := by
  have hnone : v2.extractLsb' 32 24 = 0#24 := by
    apply BitVec.eq_of_getLsbD_eq
    intro i _
    simp
  rw [pairFraction_extractLsb' v1 v2 28 24 (by decide), BitVec.extractLsb'_append_eq_of_le (by decide), hnone,
    BitVec.xor_zero]

theorem pairFraction_mixed :
    (pairFraction v1 v2).extractLsb' 20 8 = v1.extractLsb' 0 8 ^^^ v2.extractLsb' 24 8 := by
  rw [pairFraction_extractLsb' v1 v2 20 8 (by decide), BitVec.extractLsb'_append_eq_of_le (by decide)]

theorem pairFraction_low : (pairFraction v1 v2).extractLsb' 0 20 = v2.extractLsb' 4 20 := by
  rw [pairFraction_extractLsb' v1 v2 0 20 (by decide), BitVec.extractLsb'_append_eq_right, BitVec.zero_xor]

end

/-- Settles O35: each pattern is sign, exponent and fraction put together, and the fields of its fraction are the words'. -/
theorem fcuPatternFields : Obligations.FcuPatternFields := by
  refine ⟨fun x => ⟨rfl, ?_⟩, fun y => ⟨rfl, ?_⟩, fun v1 v2 => ⟨rfl, ?_⟩⟩
  · rw [fcu32_eq_pattern32]
    exact ⟨pattern32_sign _, pattern32_exponent _, pattern32_fraction _⟩
  · rw [fcu64_eq_pattern64]
    exact ⟨pattern64_sign _, pattern64_exponent _,
      (pattern64_extractLsb' _ 20 32 (by decide)).trans BitVec.extractLsb'_append_eq_left,
      (pattern64_extractLsb' _ 0 20 (by decide)).trans BitVec.extractLsb'_append_eq_right⟩
  · rw [fcu64x2_eq_pattern64]
    exact ⟨pattern64_sign _, pattern64_exponent _,
      (pattern64_extractLsb' _ 28 24 (by decide)).trans (pairFraction_high v1 v2),
      (pattern64_extractLsb' _ 20 8 (by decide)).trans (pairFraction_mixed v1 v2),
      (pattern64_extractLsb' _ 0 20 (by decide)).trans (pairFraction_low v1 v2)⟩

/-! ### The numbers of the FCU's patterns (R97, R104) -/

theorem toNat_extractLsb'_nine (x : Word) : (x.extractLsb' 9 23).toNat = (x >>> 9).toNat := by
  rw [BitVec.extractLsb'_toNat, BitVec.toNat_ushiftRight, Nat.shiftRight_eq_div_pow]
  have := x.isLt
  omega

theorem toNat_append_zero (y : Word) : (y ++ 0#20).toNat = y.toNat * 2 ^ 20 := by
  rw [toNat_append_eq_add, BitVec.toNat_ofNat, Nat.zero_mod, Nat.add_zero]

theorem pairFraction_toNat (v1 v2 : Word) :
    (pairFraction v1 v2).toNat = (v1.toNat * 2 ^ 20) ^^^ (v2.toNat / 2 ^ 4) := by
  have hright : ((v2 >>> 4).setWidth 52).toNat = v2.toNat / 2 ^ 4 := by
    rw [BitVec.toNat_setWidth, BitVec.toNat_ushiftRight, Nat.shiftRight_eq_div_pow]
    have := v2.isLt
    omega
  rw [pairFraction, BitVec.toNat_xor, toNat_append_zero, hright]

/-- Settles O36: the fraction of each pattern as a number, over 2 to its width. -/
theorem fcuPatternValues : Obligations.FcuPatternValues := by
  refine ⟨fun x => ?_, fun y => ?_, fun v1 v2 => ⟨?_, ?_⟩⟩
  · rw [fcu32_eq_pattern32, bitsF32_pattern32, toNat_extractLsb'_nine, Nat.cast_one]
  · have hdiv : ((y.toNat * 2 ^ 20 : Nat) : ℚ) / 2 ^ 52 = (y.toNat : ℚ) / 2 ^ 32 := by
      push_cast
      ring
    rw [fcu64_eq_pattern64, bitsF64_pattern64, toNat_append_zero, hdiv]
  · exact pairFraction_toNat v1 v2 ▸ (pairFraction v1 v2).isLt
  · rw [fcu64x2_eq_pattern64, bitsF64_pattern64, pairFraction_toNat]

/-! ### The float results (R104) -/

theorem takeOne_rsp (f : Word → DWord) (s : State) : ∃ x, (s.takeOne f).rsp = some ⟨f x, false⟩ := by
  rcases s.cursor_lt_or_full with hlt | hfull
  · rw [State.takeOne_of_lt f hlt]
    exact ⟨_, rfl⟩
  · rw [State.takeOne_of_full f hfull]
    exact ⟨_, rfl⟩

/-- A pair extraction that answers without error answers `f` of two words. -/
theorem takePair_rsp {f : Word → Word → DWord} {s : State} {d : DWord} (h : (s.takePair f).rsp = some ⟨d, false⟩) :
    ∃ v1 v2, d = f v1 v2 := by
  by_cases h15 : s.cursor.val = 15
  · have herr := (takePair_raises_pairCross f h15).rspErr
    rw [h] at herr
    cases herr
  · rcases s.cursor_lt_or_full with hlt | hfull
    · rw [State.takePair_of_lt f (by omega)] at h
      cases h
      exact ⟨_, _, rfl⟩
    · rw [State.takePair_of_full f hfull] at h
      cases h
      exact ⟨_, _, rfl⟩

/-- Past the gate without an error, the block has the FCU and the response is the body's. -/
theorem withFcu_rsp {s : State} {body : State → State} {d : DWord} (h : (s.withFcu body).rsp = some ⟨d, false⟩) :
    (body s).rsp = some ⟨d, false⟩ := by
  cases hfcu : s.cfg.hasFcu with
  | true => rwa [State.withFcu_present body hfcu] at h
  | false =>
    rw [State.withFcu_absent body hfcu] at h
    cases h

section
variable {s t : State} {d : DWord} (hd : t.rsp = some ⟨d, false⟩)
include hd

theorem exists_pattern32_of_nxf32 (ht : exec .nxf32 s = .next t) : ∃ f, d = narrowResult (pattern32 f) := by
  obtain rfl := Host.Outcome.next.inj ((exec_nxf32 s).symm.trans ht)
  obtain ⟨x, hx⟩ := takeOne_rsp (fun x => narrowResult (fcu32 x)) s
  have heq := hx.symm.trans (withFcu_rsp hd)
  cases heq
  exact ⟨_, congrArg narrowResult (fcu32_eq_pattern32 x)⟩

theorem exists_pattern64_of_nxf64 (ht : exec .nxf64 s = .next t) : ∃ f, d = pattern64 f := by
  obtain rfl := Host.Outcome.next.inj ((exec_nxf64 s).symm.trans ht)
  obtain ⟨x, hx⟩ := takeOne_rsp (fun x => fcu64 (fold x)) s
  have heq := hx.symm.trans (withFcu_rsp hd)
  cases heq
  exact ⟨_, fcu64_eq_pattern64 (fold x)⟩

theorem exists_pattern64_of_nxf64x2 (ht : exec .nxf64x2 s = .next t) : ∃ f, d = pattern64 f := by
  obtain rfl := Host.Outcome.next.inj ((exec_nxf64x2 s).symm.trans ht)
  obtain ⟨v1, v2, rfl⟩ := takePair_rsp (withFcu_rsp hd)
  exact ⟨_, fcu64x2_eq_pattern64 v1 v2⟩

end

/-- Settles O37: a result without error is a pattern with the exponent of 1.0, whose number is 1 and a fraction below 1. -/
theorem floatResultsLieInOneToTwo : Obligations.FloatResultsLieInOneToTwo := by
  refine fun s t d hd => ⟨fun ht => ?_, fun ht => ?_⟩
  · obtain ⟨f, rfl⟩ := exists_pattern32_of_nxf32 hd ht
    have hnarrow : (narrowResult (pattern32 f)).setWidth 32 = pattern32 f := by
      rw [narrowResult, BitVec.setWidth_setWidth_of_le _ (by decide), BitVec.setWidth_eq]
    refine ⟨?_, _, (congrArg bitsF32 hnarrow).trans (bitsF32_pattern32 f), one_add_fraction_mem f⟩
    rw [narrowResult, BitVec.toNat_setWidth]
    exact Nat.lt_of_le_of_lt (Nat.mod_le _ _) (pattern32 f).isLt
  · obtain ⟨f, rfl⟩ : ∃ f, d = pattern64 f :=
      ht.elim (exists_pattern64_of_nxf64 hd) (exists_pattern64_of_nxf64x2 hd)
    exact ⟨_, bitsF64_pattern64 f, one_add_fraction_mem f⟩

end Sys2Proof.Proofs
end

section
/-! PROOFS. What a command reads and writes: which commands write a lane, and that two states that agree on what a command
reads give it the same effect (10_state.md R20, 20_memory.md R47, 60_exceptions.md R138). -/

namespace Sys2Proof.Proofs

open Sys2Proof.Machine Sys2Proof.Safety Sys2Proof.Claims
open Sys2Proof.Laws.EncodedFields (opcode)

/-! ### Commands that only read (R47, R110) -/

theorem withFcu_sameBuffer {s : State} {body : State → State} (h : SameBuffer s (body s)) :
    SameBuffer s (s.withFcu body) := by
  unfold State.withFcu
  split
  · exact h
  · exact s.illegalOp_raises.buffer

theorem viewPair_sameBuffer (f : Word → Word → DWord) (s : State) (i : Fin 16) : SameBuffer s (s.viewPair f i) := by
  rcases Nat.lt_or_ge (i.val + 1) 16 with hlt | hge
  · rw [State.viewPair_of_lt f i hlt]
    exact respond_sameBuffer s _
  · rw [State.viewPair_of_last f i (by omega)]
    exact (s.raiseUnspecified_raises _).buffer

theorem readOnly_sameBuffer {i : Instr} {s t : State} (hi : ReadOnly i) (ht : exec i s = .next t) : SameBuffer s t := by
  rcases hi with rfl | rfl | ⟨idx, rfl | rfl | rfl | rfl⟩ <;> cases ht
  · exact respond_sameBuffer s _
  · exact respond_sameBuffer s _
  · exact respond_sameBuffer s _
  · exact withFcu_sameBuffer (respond_sameBuffer s _)
  · exact withFcu_sameBuffer (respond_sameBuffer s _)
  · exact withFcu_sameBuffer (viewPair_sameBuffer _ s _)

/-! ### Which commands write a lane (R20, R88) -/

/-- The lanes from `s` to `t` are unchanged, or refilled by an extraction that started at cursor 16. -/
def KeepsOrRefills (s t : State) : Prop := t.lanes = s.lanes ∨ (Refilled s t ∧ s.cursor.val = 16)

theorem takeOne_keepsOrRefills (f : Word → DWord) (s : State) : KeepsOrRefills s (s.takeOne f) := by
  obtain ⟨below, full⟩ := takeOne_consumesOne f s
  rcases s.cursor_lt_or_full with hlt | hfull
  · exact .inl (below hlt).1
  · exact .inr ⟨(full (congrArg Fin.val hfull)).1, congrArg Fin.val hfull⟩

theorem takePair_keepsOrRefills (f : Word → Word → DWord) (s : State) : KeepsOrRefills s (s.takePair f) := by
  obtain ⟨below, full⟩ := takePair_consumesTwo f s
  by_cases h15 : s.cursor.val = 15
  · exact .inl (takePair_raises_pairCross f h15).buffer.lanes
  · rcases s.cursor_lt_or_full with hlt | hfull
    · exact .inl (below (by omega)).1
    · exact .inr ⟨(full (congrArg Fin.val hfull)).1, congrArg Fin.val hfull⟩

/-- ILLEGAL_OP writes no lane, so the gate adds nothing to what the body may write. -/
theorem withFcu_keepsOrRefills {s : State} {body : State → State} (h : KeepsOrRefills s (body s)) :
    KeepsOrRefills s (s.withFcu body) := by
  unfold State.withFcu
  split
  · exact h
  · exact .inl rfl

/-- An extraction that keeps or refills the lanes is one of the named writers. -/
theorem extraction_writes {i : Instr} {s t : State} (hi : i = .nxu32 ∨ i = .nxf32 ∨ i = .nxf64 ∨ i = .nxf64x2)
    (h : KeepsOrRefills s t) :
    t.lanes = s.lanes ∨ (Refilled s t ∧ (i = .refill ∨
      (s.cursor.val = 16 ∧ (i = .nxu32 ∨ i = .nxf32 ∨ i = .nxf64 ∨ i = .nxf64x2)))) :=
  h.imp_right fun ⟨hrefilled, hfull⟩ => ⟨hrefilled, .inr ⟨hfull, hi⟩⟩

/-- Settles O33: views and status commands write no lane, extractions keep or refill them, and the others are those named. -/
theorem lanesWrittenOnlyBySeedingAndRefill : Obligations.LanesWrittenOnlyBySeedingAndRefill := by
  intro i s t ht
  have ends {P : State → Prop} {u : State} (hu : exec i s = .next u) (h : P u) : P t :=
    Host.Outcome.next.inj (hu.symm.trans ht) ▸ h
  cases i with
  | initd => exact .inr (.inl (.inl rfl))
  | init1 seed => exact .inr (.inl (.inr (.inl ⟨seed, rfl⟩)))
  | init2 s1 s2 => exact .inr (.inl (.inr (.inr ⟨s1, s2, rfl⟩)))
  | refill => exact .inr (.inr ⟨ends (exec_refill s) (refilled_of_lanes_eq rfl), .inl rfl⟩)
  | nxu32 =>
    exact (extraction_writes (by simp) (ends (exec_nxu32 s) (takeOne_keepsOrRefills _ s))).imp_right .inr
  | nxf32 =>
    exact (extraction_writes (by simp)
      (ends (exec_nxf32 s) (withFcu_keepsOrRefills (takeOne_keepsOrRefills _ s)))).imp_right .inr
  | nxf64 =>
    exact (extraction_writes (by simp)
      (ends (exec_nxf64 s) (withFcu_keepsOrRefills (takeOne_keepsOrRefills _ s)))).imp_right .inr
  | nxf64x2 =>
    exact (extraction_writes (by simp)
      (ends (exec_nxf64x2 s) (withFcu_keepsOrRefills (takePair_keepsOrRefills _ s)))).imp_right .inr
  | status | info | vwu32 | vwf32 | vwf64 | vwf64x2 =>
    exact .inl (readOnly_sameBuffer (by simp [ReadOnly]) ht).lanes

/-! ### States a command cannot tell apart -/

/-- `s` and `s'` agree on the lanes, the cursor, the ROMs and the constants: all that a command but STATUS reads. -/
structure SameInputs (s s' : State) : Prop where
  buffer : SameBuffer s s'
  rom : s'.rom = s.rom
  cfg : s'.cfg = s.cfg

/-- A command left `u` and `v` alike: the lanes, the cursor and the error bit, and without an error the whole response. -/
structure SameResult (u v : State) : Prop where
  buffer : SameBuffer u v
  rspErr : v.rsp.map Response.err = u.rsp.map Response.err
  rsp : u.rsp.map Response.err = some false → v.rsp = u.rsp

theorem sameInputs_of_sameBlock {s s' : State} (h : SameBlock s s') : SameInputs s s' := ⟨h.buffer, h.rom, h.cfg⟩

/-- Two errors, of whatever cause, are alike: the response data of an error is left open. -/
theorem sameResult_of_raises {s s' u v : State} {k k' : ErrCause} (h : SameInputs s s') (hu : Raises s u k)
    (hv : Raises s' v k') : SameResult u v where
  buffer :=
    { lanes := hv.buffer.lanes.trans (h.buffer.lanes.trans hu.buffer.lanes.symm)
      cursor := hv.buffer.cursor.trans (h.buffer.cursor.trans hu.buffer.cursor.symm) }
  rspErr := hv.rspErr.trans hu.rspErr.symm
  rsp hok := by rw [hu.rspErr] at hok; cases hok

theorem sameResult_of_rsp_eq {u v : State} (hbuf : SameBuffer u v) (hrsp : v.rsp = u.rsp) : SameResult u v :=
  ⟨hbuf, by rw [hrsp], fun _ => hrsp⟩

/-- Loading the same lanes leaves any two states alike. -/
theorem loadLanes_sameResult (s s' : State) {l l' : Lanes} (hl : l' = l) :
    SameResult ((s.loadLanes l).respond 0) ((s'.loadLanes l').respond 0) :=
  sameResult_of_rsp_eq ⟨hl, rfl⟩ rfl

section
variable {s s' : State} (h : SameInputs s s')
include h

theorem refillAll_lanes_congr : s'.refillAll.lanes = s.refillAll.lanes := by
  rw [State.refillAll_eq, State.refillAll_eq, h.rom, h.buffer.lanes]
  rfl

theorem respond_sameResult (d : DWord) : SameResult (s.respond d) (s'.respond d) :=
  sameResult_of_rsp_eq ⟨h.buffer.lanes, h.buffer.cursor⟩ rfl

theorem takeOne_sameResult (f : Word → DWord) : SameResult (s.takeOne f) (s'.takeOne f) := by
  have hcursor := h.buffer.cursor
  rcases s.cursor_lt_or_full with hlt | hfull
  · rw [State.takeOne_of_lt f hlt, State.takeOne_of_lt f (hcursor ▸ hlt)]
    exact sameResult_of_rsp_eq ⟨h.buffer.lanes, by simp [hcursor]⟩ (by simp [hcursor, h.buffer.lanes])
  · rw [State.takeOne_of_full f hfull, State.takeOne_of_full f (hcursor.trans hfull)]
    have hlanes := refillAll_lanes_congr h
    exact sameResult_of_rsp_eq ⟨by simp [hlanes], by simp⟩ (by simp [hlanes])

theorem takePair_sameResult (f : Word → Word → DWord) : SameResult (s.takePair f) (s'.takePair f) := by
  have hcursor := h.buffer.cursor
  by_cases h15 : s.cursor.val = 15
  · exact sameResult_of_raises h (takePair_raises_pairCross f h15) (takePair_raises_pairCross f (hcursor ▸ h15))
  · rcases s.cursor_lt_or_full with hlt | hfull
    · have hpair : s.cursor.val < 15 := by omega
      rw [State.takePair_of_lt f hpair, State.takePair_of_lt f (hcursor ▸ hpair)]
      exact sameResult_of_rsp_eq ⟨h.buffer.lanes, by simp [hcursor]⟩ (by simp [hcursor, h.buffer.lanes])
    · rw [State.takePair_of_full f hfull, State.takePair_of_full f (hcursor.trans hfull)]
      have hlanes := refillAll_lanes_congr h
      exact sameResult_of_rsp_eq ⟨by simp [hlanes], by simp⟩ (by simp [hlanes])

theorem viewOne_sameResult (f : Word → DWord) (i : Fin 16) : SameResult (s.viewOne f i) (s'.viewOne f i) := by
  rw [State.viewOne, State.viewOne, State.lane_eq, State.lane_eq, h.buffer.lanes]
  exact respond_sameResult h _

theorem viewPair_sameResult (f : Word → Word → DWord) (i : Fin 16) : SameResult (s.viewPair f i) (s'.viewPair f i) := by
  rcases Nat.lt_or_ge (i.val + 1) 16 with hlt | hge
  · rw [State.viewPair_of_lt f i hlt, State.viewPair_of_lt f i hlt, h.buffer.lanes]
    exact respond_sameResult h _
  · rw [State.viewPair_of_last f i (by omega), State.viewPair_of_last f i (by omega)]
    exact sameResult_of_raises h (s.raiseUnspecified_raises _) (s'.raiseUnspecified_raises _)

theorem withFcu_sameResult {body : State → State} (hbody : SameResult (body s) (body s')) :
    SameResult (s.withFcu body) (s'.withFcu body) := by
  unfold State.withFcu
  rw [h.cfg]
  split
  · exact hbody
  · exact sameResult_of_raises h s.illegalOp_raises s'.illegalOp_raises

theorem statusWord_congr (herr : s'.err = s.err) (hcause : s'.errCause = s.errCause) : statusWord s' = statusWord s := by
  simp only [statusWord, h.cfg, h.buffer.cursor, herr, hcause]

/-- Every instruction but STATUS has the same result from states that agree on the inputs. -/
theorem exec_sameResult {i : Instr} (hi : i ≠ .status) {u v : State} (hu : exec i s = .next u) (hv : exec i s' = .next v) :
    SameResult u v := by
  have ends {x y : State} (hx : exec i s = .next x) (hy : exec i s' = .next y) (same : SameResult x y) :
      SameResult u v := by
    rwa [← Host.Outcome.next.inj (hx.symm.trans hu), ← Host.Outcome.next.inj (hy.symm.trans hv)]
  cases i with
  | status => exact absurd rfl hi
  | info => exact ends (exec_info s) (h.cfg ▸ exec_info s') (respond_sameResult h _)
  | initd =>
    exact ends ((exec_initd s).trans (exec_init1 0 s)) ((exec_initd s').trans (exec_init1 0 s'))
      (loadLanes_sameResult s s' rfl)
  | init1 seed => exact ends (exec_init1 seed s) (exec_init1 seed s') (loadLanes_sameResult s s' rfl)
  | init2 s1 s2 => exact ends (exec_init2 s1 s2 s) (exec_init2 s1 s2 s') (loadLanes_sameResult s s' (by rw [h.cfg]))
  | refill => exact ends (exec_refill s) (exec_refill s') (loadLanes_sameResult s s' (by rw [h.rom, h.buffer.lanes]))
  | nxu32 => exact ends (exec_nxu32 s) (exec_nxu32 s') (takeOne_sameResult h _)
  | nxf32 => exact ends (exec_nxf32 s) (exec_nxf32 s') (withFcu_sameResult h (takeOne_sameResult h _))
  | nxf64 => exact ends (exec_nxf64 s) (exec_nxf64 s') (withFcu_sameResult h (takeOne_sameResult h _))
  | nxf64x2 => exact ends (exec_nxf64x2 s) (exec_nxf64x2 s') (withFcu_sameResult h (takePair_sameResult h _))
  | vwu32 idx => exact ends (exec_vwu32 idx s) (exec_vwu32 idx s') (viewOne_sameResult h _ _)
  | vwf32 idx => exact ends (exec_vwf32 idx s) (exec_vwf32 idx s') (withFcu_sameResult h (viewOne_sameResult h _ _))
  | vwf64 idx => exact ends (exec_vwf64 idx s) (exec_vwf64 idx s') (withFcu_sameResult h (viewOne_sameResult h _ _))
  | vwf64x2 idx =>
    exact ends (exec_vwf64x2 idx s) (exec_vwf64x2 idx s') (withFcu_sameResult h (viewPair_sameResult h _ _))

/-- STATUS too, from states that agree on the status fields as well. -/
theorem exec_sameResult_of_sameStatus (herr : s'.err = s.err) (hcause : s'.errCause = s.errCause) {i : Instr}
    {u v : State} (hu : exec i s = .next u) (hv : exec i s' = .next v) : SameResult u v := by
  by_cases hi : i = .status
  · subst hi
    obtain rfl := Host.Outcome.next.inj ((exec_status s).symm.trans hu)
    obtain rfl := Host.Outcome.next.inj ((exec_status s').symm.trans hv)
    rw [statusWord_congr h herr hcause]
    exact respond_sameResult h _
  · exact exec_sameResult h hi hu hv

/-- A command word has the same result, if it is no STATUS or the states agree on the status fields as well. -/
theorem command_sameResult {w : CmdWord}
    (hstatus : fieldOp w ≠ 0x0#4 ∨ (s'.err = s.err ∧ s'.errCause = s.errCause)) {u v : State}
    (hu : command w s = .next u) (hv : command w s' = .next v) : SameResult u v := by
  cases hdec : decode w with
  | ok i =>
    rw [command_of_decode hdec] at hu hv
    rcases hstatus with hop | ⟨herr, hcause⟩
    · refine exec_sameResult h (fun hi => hop ?_) hu hv
      rw [fieldOp_of_decode hdec, hi, opcode]
    · exact exec_sameResult_of_sameStatus h herr hcause hu hv
  | error e =>
    rw [command_of_reserved (reserved_of_decode hdec)] at hu hv
    cases hu
    cases hv
    exact sameResult_of_raises h s.illegalOp_raises s'.illegalOp_raises

end

/-! ### Repeating a command that only reads (R47, R110) -/

/-- A command that answers without error leaves the status fields alone. -/
theorem status_of_ok {s t : State} (h : CommandEffect s t) (hok : t.rsp.map Response.err = some false) :
    t.err = s.err ∧ t.errCause = s.errCause := by
  rcases h with ⟨d, answers⟩ | ⟨k, -, raises⟩
  · exact ⟨answers.err, answers.errCause⟩
  · rw [raises.rspErr] at hok
    cases hok

/-- Settles O47: a read-only command that answers leaves all that it reads, so it answers the same again. -/
theorem readOnlyCommandsAreIdempotent : Obligations.ReadOnlyCommandsAreIdempotent := by
  intro i s t hi ht
  have buffer := readOnly_sameBuffer hi ht
  have elsewhere := sameElsewhere_of_effect (effect_of_exec ht)
  refine ⟨buffer, elsewhere, fun hok => ?_⟩
  obtain ⟨herr, hcause⟩ := status_of_ok (effect_of_exec ht) hok
  obtain ⟨u, hu, -⟩ := exec_effect i t
  have same := exec_sameResult_of_sameStatus ⟨buffer, elsewhere.rom, elsewhere.cfg⟩ herr hcause ht hu
  exact ⟨herr, hcause, u, hu, same.rsp hok⟩

/-! ### The command after a failing one (R138) -/

/-- A failing command leaves all that a command but STATUS reads, and a status that already records an error. -/
theorem sameInputs_of_failed {s t : State} (h : CommandEffect s t) (hfail : t.rsp.map Response.err = some true) :
    SameInputs s t ∧ (s.err = true → t.err = s.err ∧ t.errCause = s.errCause) := by
  rcases h with ⟨d, answers⟩ | ⟨k, -, raises⟩
  · rw [answers.rsp] at hfail
    cases hfail
  · exact ⟨⟨raises.buffer, raises.elsewhere.rom, raises.elsewhere.cfg⟩, fun herr =>
      ⟨raises.err.trans herr.symm, raises.kept herr⟩⟩

/-- STATUS answers without error and leaves the buffer, so its results differ in the response data at most. -/
theorem status_sameShape {w : CmdWord} {s s' u v : State} (h : SameInputs s s') (hop : fieldOp w = 0x0#4)
    (hu : command w s = .next u) (hv : command w s' = .next v) :
    SameBuffer u v ∧ v.rsp.map Response.err = u.rsp.map Response.err := by
  rw [command_of_decode (encoded_status w hop), exec_status] at hu hv
  cases hu
  cases hv
  exact ⟨⟨h.buffer.lanes, h.buffer.cursor⟩, rfl⟩

/-- Settles O53: the next command finds the inputs it would have found; only STATUS can see that the failing one ran. -/
theorem failingCommandLeavesTheNextOneAlone : Obligations.FailingCommandLeavesTheNextOneAlone := by
  intro w w' s t u v ht hfail hu hv
  obtain ⟨inputs, status⟩ := sameInputs_of_failed (effect_of_command ht) hfail
  by_cases hseen : fieldOp w' ≠ 0x0#4 ∨ s.err = true
  · have same := command_sameResult inputs (hseen.imp_right status) hu hv
    exact ⟨same.buffer, same.rspErr, fun hok _ => same.rsp hok⟩
  · obtain ⟨buffer, rspErr⟩ := status_sameShape inputs (not_not.mp (not_or.mp hseen).1) hu hv
    exact ⟨buffer, rspErr, fun _ h => absurd h hseen⟩

end Sys2Proof.Proofs
end

section
/-! PROOFS. Command sequences: their first command and the rest, runs of one extraction through the buffer, and that two
blocks that hold the same answer a sequence alike (41_refill.md R92, 43_view.md R116, 40_seeding.md R80). -/

namespace Sys2Proof.Proofs

open Sys2Proof.Machine Sys2Proof.Safety Sys2Proof.Claims

/-! ### The first command of a sequence -/

theorem runCommands_cons_of_next {w : CmdWord} {ws : List CmdWord} {s t u : State} {r : Response} {rs : List Response}
    (ht : command w s = .next t) (hr : t.rsp = some r) (hrest : runCommands ws t = some (rs, u)) :
    runCommands (w :: ws) s = some (r :: rs, u) := by
  simp only [runCommands, ht, hr, hrest]

/-- A sequence that ends has a first response, and its rest ends. -/
theorem next_of_runCommands_cons {w : CmdWord} {ws : List CmdWord} {s u : State} {rs : List Response}
    (h : runCommands (w :: ws) s = some (rs, u)) :
    ∃ t r rs', command w s = .next t ∧ t.rsp = some r ∧ runCommands ws t = some (rs', u) ∧ rs = r :: rs' := by
  obtain ⟨t, r, ht, hr, -⟩ := command_rsp w s
  simp only [runCommands, ht, hr] at h
  cases hrest : runCommands ws t with
  | none => simp [hrest] at h
  | some p =>
    obtain ⟨rs', u'⟩ := p
    simp only [hrest, Option.some.injEq, Prod.mk.injEq] at h
    obtain ⟨hrs, rfl⟩ := h
    exact ⟨t, r, rs', ht, hr, hrest, hrs.symm⟩

/-! ### One extraction again and again (R92, R116) -/

/-- On a block with constants `c`, the word `w` answers `g` of the lanes and the cursor, keeps the lanes and the ROMs, and
advances the cursor by `m`, as long as the lanes it reads are there. -/
def ReadsForward (c : Config) (w : CmdWord) (m : Nat) (g : Lanes → Nat → DWord) : Prop :=
  ∀ s : State, s.cfg = c → s.cursor.val + m ≤ 16 →
    ∃ t, command w s = .next t ∧ t.rsp = some ⟨g s.lanes s.cursor.val, false⟩ ∧ t.lanes = s.lanes ∧
      t.cursor.val = s.cursor.val + m ∧ t.rom = s.rom ∧ t.cfg = c

/-- A sequence of `n` such words reads its way through the lanes. -/
theorem runCommands_of_readsForward {c : Config} {w : CmdWord} {m : Nat} {g : Lanes → Nat → DWord}
    (hw : ReadsForward c w m g) (n : Nat) {s : State} (hc : s.cfg = c) (hroom : s.cursor.val + m * n ≤ 16) :
    ∃ rs t, runCommands (List.replicate n w) s = some (rs, t) ∧ t.lanes = s.lanes ∧
      t.cursor.val = s.cursor.val + m * n ∧ t.rom = s.rom ∧
      ∀ i, i < n → rs[i]? = some ⟨g s.lanes (s.cursor.val + m * i), false⟩ := by
  induction n generalizing s with
  | zero => exact ⟨[], s, rfl, rfl, rfl, rfl, nofun⟩
  | succ n ih =>
    rw [Nat.mul_succ] at hroom ⊢
    obtain ⟨t, ht, hr, hlanes, hcursor, hrom, hcfg⟩ := hw s hc (by omega)
    obtain ⟨rs, u, hrest, hulanes, hucursor, hurom, hrs⟩ := ih hcfg (by omega)
    refine ⟨_, u, runCommands_cons_of_next ht hr hrest, hulanes.trans hlanes, by omega, hurom.trans hrom,
      fun i hi => ?_⟩
    cases i with
    | zero => rfl
    | succ i =>
      rw [List.getElem?_cons_succ, hrs i (Nat.lt_of_succ_lt_succ hi), hlanes, hcursor, Nat.mul_succ]
      congr 3
      omega

/-- An instruction that consumes one lane wherever the constants are `c` reads forward by one. -/
theorem readsForward_of_takeOne {c : Config} {i : Instr} {f : Word → DWord}
    (hexec : ∀ s : State, s.cfg = c → exec i s = .next (s.takeOne f)) :
    ReadsForward c (encode i) 1 fun l k => f l[k]! := by
  intro s hc hroom
  obtain ⟨hlanes, hcursor, answers⟩ := (takeOne_consumesOne f s).1 (by omega)
  refine ⟨_, (command_encode i s).trans (hexec s hc), ?_, hlanes, hcursor, answers.elsewhere.rom,
    answers.elsewhere.cfg.trans hc⟩
  simp only [answers.rsp, getElem!_pos s.lanes s.cursor.val (by omega)]

/-- An instruction that consumes a pair wherever the constants are `c` reads forward by two. -/
theorem readsForward_of_takePair {c : Config} {i : Instr} {f : Word → Word → DWord}
    (hexec : ∀ s : State, s.cfg = c → exec i s = .next (s.takePair f)) :
    ReadsForward c (encode i) 2 fun l k => f l[k]! l[k + 1]! := by
  intro s hc hroom
  obtain ⟨hlanes, hcursor, answers⟩ := (takePair_consumesTwo f s).1 (by omega)
  refine ⟨_, (command_encode i s).trans (hexec s hc), ?_, hlanes, hcursor, answers.elsewhere.rom,
    answers.elsewhere.cfg.trans hc⟩
  simp only [answers.rsp, getElem!_pos s.lanes s.cursor.val (by omega), getElem!_pos s.lanes (s.cursor.val + 1) (by omega)]

theorem nxu32_readsForward (c : Config) :
    ReadsForward c (encode .nxu32) 1 fun l k => narrowResult (fold l[k]!) :=
  readsForward_of_takeOne fun s _ => exec_nxu32 s

/-- Settles O32: sixteen reads forward from cursor 0 end at cursor 16, where the next one refills. -/
theorem seventeenthNxu32RefillsOnce : Obligations.SeventeenthNxu32RefillsOnce := by
  intro s h0 _
  obtain ⟨rs, t, hrun, hlanes, hcursor, hrom, hrs⟩ :=
    runCommands_of_readsForward (nxu32_readsForward s.cfg) 16 rfl (by omega)
  have hfull : t.cursor.val = 16 := by omega
  obtain ⟨hrefilled, hone, answers⟩ := (takeOne_consumesOne (fun x => narrowResult (fold x)) t).2 hfull
  rw [Refilled, hrom, hlanes] at hrefilled
  refine ⟨rs, t, _, hrun, hlanes, hfull, fun i hi => ?_, (command_encode _ t).trans (exec_nxu32 t), hrefilled, hone,
    answers.rsp⟩
  have hpos : s.cursor.val + 1 * i = i := by omega
  rw [hrs i hi, hpos, getElem!_pos s.lanes i hi]
  rfl

section
variable {s : State} (h0 : s.cursor.val = 0)
include h0

/-- From cursor 0 the response number `i` of a one-lane extraction is `f` of lane `i`. -/
theorem run_of_takeOne {i : Instr} {f : Word → DWord}
    (hexec : ∀ t : State, t.cfg = s.cfg → exec i t = .next (t.takeOne f)) (n : Nat) (hn : n < 16) :
    ∃ rs t, runCommands (List.replicate (n + 1) (encode i)) s = some (rs, t) ∧ rs[n]? = some ⟨f s.lanes[n], false⟩ := by
  obtain ⟨rs, t, hrun, -, -, -, hrs⟩ := runCommands_of_readsForward (readsForward_of_takeOne hexec) (n + 1) rfl (by omega)
  have hpos : s.cursor.val + 1 * n = n := by omega
  refine ⟨rs, t, hrun, ?_⟩
  rw [hrs n n.lt_succ_self, hpos, getElem!_pos s.lanes n hn]

/-- From cursor 0 the response number `k` of a pair extraction is `f` of lanes `2k` and `2k + 1`. -/
theorem run_of_takePair {i : Instr} {f : Word → Word → DWord}
    (hexec : ∀ t : State, t.cfg = s.cfg → exec i t = .next (t.takePair f)) (k : Nat) (hk : k < 8) :
    ∃ rs t, runCommands (List.replicate (k + 1) (encode i)) s = some (rs, t) ∧
      rs[k]? = some ⟨f s.lanes[2 * k] s.lanes[2 * k + 1], false⟩ := by
  obtain ⟨rs, t, hrun, -, -, -, hrs⟩ := runCommands_of_readsForward (readsForward_of_takePair hexec) (k + 1) rfl (by omega)
  have hpos : s.cursor.val + 2 * k = 2 * k := by omega
  refine ⟨rs, t, hrun, ?_⟩
  rw [hrs k k.lt_succ_self, hpos, getElem!_pos s.lanes (2 * k) (by omega), getElem!_pos s.lanes (2 * k + 1) (by omega)]

end

/-- Settles O46: from the cursor 0 a REFILL leaves, extraction number `i` and the view at `i` answer the same function of the
same lanes; only NXU32 folds where VWU32 does not. -/
theorem viewsAgreeWithExtractionAfterRefill : Obligations.ViewsAgreeWithExtractionAfterRefill := by
  intro s u hrefill hfcu _
  have h0 : s.cursor.val = 0 := by
    rw [← Host.Outcome.next.inj ((exec_refill u).symm.trans hrefill)]
    rfl
  have gated {i : Instr} {body : State → State} (hexec : ∀ t, exec i t = .next (t.withFcu body)) (t : State)
      (hcfg : t.cfg = s.cfg) : exec i t = .next (body t) := exec_eq_body_of_withFcu hexec (hcfg ▸ hfcu)
  refine ⟨fun i h => ?_, fun i h => ?_, fun i h => ?_, fun k h => ?_⟩
  · obtain ⟨rs, t, hrun, hrs⟩ := run_of_takeOne h0 (gated exec_nxf32) i h
    have answers := (viewOne_reads (fun x => narrowResult (fcu32 x)) s h).2
    exact ⟨rs, t, _, hrun, gated (exec_vwf32 _) s rfl, rfl, hrs.trans answers.rsp.symm⟩
  · obtain ⟨rs, t, hrun, hrs⟩ := run_of_takeOne h0 (fun t _ => exec_nxu32 t) i h
    exact ⟨rs, t, _, hrun, exec_vwu32 _ s, (viewOne_reads narrowResult s h).2.rsp, hrs⟩
  · obtain ⟨rs, t, hrun, hrs⟩ := run_of_takeOne h0 (gated exec_nxf64) i h
    have answers := (viewOne_reads (fun x => fcu64 (fold x)) s h).2
    exact ⟨rs, t, _, hrun, gated (exec_vwf64 _) s rfl, rfl, hrs.trans answers.rsp.symm⟩
  · obtain ⟨rs, t, hrun, hrs⟩ := run_of_takePair h0 (gated exec_nxf64x2) k h
    have answers := (viewPair_reads fcu64x2 s (i := 2 * k) (by omega)).2
    exact ⟨rs, t, _, hrun, gated (exec_vwf64x2 _) s rfl, by rw [answers.rsp]; rfl, hrs.trans answers.rsp.symm⟩

/-! ### Blocks that hold the same (R80) -/

theorem sameBlock_refl (s : State) : SameBlock s s := ⟨⟨rfl, rfl⟩, rfl, rfl, rfl, rfl⟩

theorem sameBlock_symm {s t : State} (h : SameBlock s t) : SameBlock t s :=
  ⟨⟨h.buffer.lanes.symm, h.buffer.cursor.symm⟩, h.err.symm, h.errCause.symm, h.rom.symm, h.cfg.symm⟩

theorem sameBlock_trans {s t u : State} (h : SameBlock s t) (h' : SameBlock t u) : SameBlock s u :=
  ⟨⟨h'.buffer.lanes.trans h.buffer.lanes, h'.buffer.cursor.trans h.buffer.cursor⟩, h'.err.trans h.err,
    h'.errCause.trans h.errCause, h'.rom.trans h.rom, h'.cfg.trans h.cfg⟩

/-- The status fields a command leaves depend on those before it and on the error it raises, if any. -/
theorem status_congr_of_endsWith {s s' u v : State} {k : ErrCause} (h : SameBlock s s') (hu : EndsWith s u k)
    (hv : EndsWith s' v k) : v.err = u.err ∧ v.errCause = u.errCause := by
  by_cases hk : k = .none
  · obtain ⟨d, answers⟩ := hu.1 hk
    obtain ⟨d', answers'⟩ := hv.1 hk
    exact ⟨by rw [answers'.err, answers.err, h.err], by rw [answers'.errCause, answers.errCause, h.errCause]⟩
  · have raises := hu.2 hk
    have raises' := hv.2 hk
    refine ⟨by rw [raises'.err, raises.err], ?_⟩
    cases herr : s.err with
    | false => rw [raises.first herr, raises'.first (h.err.trans herr)]
    | true => rw [raises.kept herr, raises'.kept (h.err.trans herr), h.errCause]

theorem causeOf_congr {s s' : State} (h : SameBlock s s') (w : CmdWord) : causeOf w s' = causeOf w s := by
  rw [causeOf, causeOf, h.cfg, h.buffer.cursor]

theorem endsWith_of_command {w : CmdWord} {s t : State} (ht : command w s = .next t) : EndsWith s t (causeOf w s) := by
  obtain ⟨t', ht', ends⟩ := command_endsWith w s
  obtain rfl := Host.Outcome.next.inj (ht.symm.trans ht')
  exact ends

/-- A command without a fault recorded after it has answered without error. -/
theorem ok_of_noFault {s t : State} (h : CommandEffect s t) (hok : NoFault t) : t.rsp.map Response.err = some false := by
  rcases h with ⟨d, answers⟩ | ⟨k, -, raises⟩
  · rw [answers.rsp]
    rfl
  · cases raises.err.symm.trans hok

/-- From blocks that hold the same a command leaves blocks that hold the same; with no fault recorded it answers the same. -/
theorem command_sameBlock {w : CmdWord} {s s' u : State} (h : SameBlock s s') (hu : command w s = .next u) :
    ∃ v, command w s' = .next v ∧ SameBlock u v ∧ (NoFault u → v.rsp = u.rsp) := by
  obtain ⟨v, hv, -⟩ := command_effect w s'
  have same := command_sameResult (sameInputs_of_sameBlock h) (.inr ⟨h.err, h.errCause⟩) hu hv
  have effect := effect_of_command hu
  obtain ⟨herr, hcause⟩ :=
    status_congr_of_endsWith h (endsWith_of_command hu) (causeOf_congr h w ▸ endsWith_of_command hv)
  have here := sameElsewhere_of_effect effect
  have there := sameElsewhere_of_effect (effect_of_command hv)
  refine ⟨v, hv, ⟨same.buffer, herr, hcause, ?_, ?_⟩, fun hok => same.rsp (ok_of_noFault effect hok)⟩
  · rw [there.rom, here.rom, h.rom]
  · rw [there.cfg, here.cfg, h.cfg]

/-- A sequence that ends with no fault recorded began with none. -/
theorem noFault_of_runCommands {ws : List CmdWord} {s t : State} {rs : List Response}
    (h : runCommands ws s = some (rs, t)) (hok : NoFault t) : NoFault s := by
  induction ws generalizing s rs with
  | nil => cases h; exact hok
  | cons w ws ih =>
    obtain ⟨u, r, rs', hu, -, hrest, -⟩ := next_of_runCommands_cons h
    have hu_ok : u.err = false := ih hrest
    cases herr : s.err with
    | false => exact herr
    | true =>
      have kept := (commandEffect_keeps_record (effect_of_command hu) herr).1
      cases kept.symm.trans hu_ok

/-- Blocks that hold the same answer a sequence alike and hold the same after it, in a run with no fault recorded. -/
theorem runCommands_sameBlock {ws : List CmdWord} {s s' t : State} {rs : List Response} (h : SameBlock s s')
    (hrun : runCommands ws s = some (rs, t)) (hok : NoFault t) :
    ∃ t', runCommands ws s' = some (rs, t') ∧ SameBlock t t' := by
  induction ws generalizing s s' rs with
  | nil => cases hrun; exact ⟨s', rfl, h⟩
  | cons w ws ih =>
    obtain ⟨u, r, rs', hu, hr, hrest, rfl⟩ := next_of_runCommands_cons hrun
    obtain ⟨v, hv, same, hrsp⟩ := command_sameBlock h hu
    obtain ⟨t', hrest', same'⟩ := ih same hrest
    have hvr : v.rsp = some r := (hrsp (noFault_of_runCommands hrest hok)).trans hr
    exact ⟨t', runCommands_cons_of_next hv hvr hrest', same'⟩

/-- Settles O29: runs without a fault begin without one, INIT1 then makes the two blocks hold the same, and the rest answers
alike. -/
theorem sameSeedAndCommandsGiveSameResponses : Obligations.SameSeedAndCommandsGiveSameResponses := by
  intro seed ws s s' t t' rs rs' hrom hcfg hcause hrun hok hrun' hok'
  have hs : s.err = false := noFault_of_runCommands hrun hok
  have hs' : s'.err = false := noFault_of_runCommands hrun' hok'
  obtain ⟨u, r, rest, hu, hr, hrest, rfl⟩ := next_of_runCommands_cons hrun
  obtain ⟨u', r', rest', hu', hr', hrest', rfl⟩ := next_of_runCommands_cons hrun'
  rw [command_encode, exec_init1] at hu hu'
  generalize seedOne seed = l at hu hu'
  obtain rfl := Host.Outcome.next.inj hu
  obtain rfl := Host.Outcome.next.inj hu'
  have seeded : SameBlock ((s.loadLanes l).respond 0) ((s'.loadLanes l).respond 0) :=
    ⟨loadLanes_sameBuffer s s' l 0, hs'.trans hs.symm, hcause.symm, hrom.symm, hcfg.symm⟩
  obtain ⟨v, hv, same⟩ := runCommands_sameBlock seeded hrest hok
  obtain ⟨rfl, rfl⟩ := Prod.mk.inj (Option.some.inj (hrest'.symm.trans hv))
  cases hr
  cases hr'
  exact ⟨rfl, same⟩

end Sys2Proof.Proofs
end

section
/-! PROOFS. Runs at the ports as command sequences: any host without reset, and the host that waits `LAT` edges for each
response (20_memory.md R49, 30_encoding.md R58, 70_reset_and_hazards.md R162). -/

namespace Sys2Proof.Proofs

open Sys2Proof.Machine Sys2Proof.Safety Sys2Proof.Claims

/-! ### Runs of the core -/

/-- The first edge of a run, and the run that is left. -/
theorem step_of_run_succ {k : Nat} {s u : State} (h : core.run (k + 1) s = .next u) :
    ∃ t, step s = .next t ∧ core.run k t = .next u := by
  obtain ⟨t, ht⟩ := step_next s
  exact ⟨t, ht, (run_succ core k s t ht).symm.trans h⟩

/-- A run in two parts. -/
theorem run_add {m n : Nat} {s t : State} (h : core.run m s = .next t) : core.run (m + n) s = core.run n t := by
  induction m generalizing s with
  | zero => cases h; rw [Nat.zero_add]
  | succ m ih =>
    obtain ⟨u, hu, hrest⟩ := step_of_run_succ h
    rw [Nat.add_right_comm, run_succ core _ s u hu, ih hrest]

/-! ### Any host without reset (R49, R162) -/

/-- The command words a host presents. -/
def presentedWords (host : List Pins) : List CmdWord := (host.filter Pins.cmdValid).map Pins.cmdWord

/-- What one presented sample fewer leaves is a subsequence. -/
theorem presentedWords_tail_sublist (host : List Pins) : (presentedWords host.tail).Sublist (presentedWords host) :=
  ((List.tail_sublist host).filter _).map _

/-- A host that presents a word at the coming edge presents it before all others. -/
theorem presentedWords_of_cmdValid {s : State} (h : s.pins.cmdValid = true) :
    presentedWords s.host = s.pins.cmdWord :: presentedWords s.host.tail := by
  unfold State.pins at h ⊢
  cases hhost : s.host with
  | nil => rw [hhost] at h; cases h
  | cons p ps =>
    rw [hhost] at h
    exact congrArg (List.map Pins.cmdWord) (List.filter_cons_of_pos h)

theorem pins_rst_of_forall {s : State} (h : ∀ p ∈ s.host, p.rst = false) : s.pins.rst = false := by
  unfold State.pins
  cases hhost : s.host with
  | nil => rfl
  | cons p ps => exact h p (hhost ▸ List.mem_cons_self)

/-- Acceptance records what it needs around the block, and the block is as it was. -/
theorem begin_sameBlock (s : State) : SameBlock s s.popPins.begin := ⟨⟨rfl, rfl⟩, rfl, rfl, rfl, rfl⟩

/-- No other event but a reset touches the block. -/
theorem drawn_sameBlock (s : State) : SameBlock s s.popPins.drawn := ⟨⟨rfl, rfl⟩, rfl, rfl, rfl, rfl⟩

theorem waitEdge_sameBlock (s : State) : SameBlock s s.popPins.waitEdge := ⟨⟨rfl, rfl⟩, rfl, rfl, rfl, rfl⟩

theorem transfer_sameBlock (s : State) (r : Response) : SameBlock s (s.popPins.transfer r) :=
  ⟨⟨rfl, rfl⟩, rfl, rfl, rfl, rfl⟩

/-- What an edge without reset does to the responses and the block: it accepts a command, or leaves all of that as it is. -/
theorem step_without_reset {s t : State} (hrst : s.pins.rst = false) (ht : step s = .next t) :
    t.host = s.host.tail ∧
    ((s.rsp = none ∧ s.pins.cmdValid = true ∧ t.delivered = s.delivered ∧
        ∃ v r, command s.pins.cmdWord s = .next v ∧ t.rsp = some r ∧ SameBlock t v ∧ (NoFault t → v.rsp = some r)) ∨
      (t.delivered ++ t.rsp.toList = s.delivered ++ s.rsp.toList ∧ SameBlock s t)) := by
  cases event_of_step ht with
  | reset h _ => rw [hrst] at h; cases h
  | idle _ hrsp _ ht => subst ht; exact ⟨rfl, .inr ⟨rfl, drawn_sameBlock s⟩⟩
  | accept _ hrsp hvalid ht =>
    have effect := effect_of_command ht
    have elsewhere := sameElsewhere_of_effect effect
    obtain ⟨r, hr⟩ := rsp_of_effect effect
    obtain ⟨v, hv, same, hvr⟩ := command_sameBlock (sameBlock_symm (begin_sameBlock s)) ht
    exact ⟨elsewhere.host, .inl ⟨hrsp, hvalid, elsewhere.delivered, v, r, hv, hr, same, fun hok => (hvr hok).trans hr⟩⟩
  | wait _ _ _ _ ht => subst ht; exact ⟨rfl, .inr ⟨rfl, waitEdge_sameBlock s⟩⟩
  | transfer r _ hrsp _ _ ht => subst ht; exact ⟨rfl, .inr ⟨by simp [hrsp], transfer_sameBlock s r⟩⟩

/-- A run without reset from any state: the responses got and pending, after those at its start, are those of some of the
host's words, and the block holds what they leave. -/
theorem exists_sequence_of_run {k : Nat} {s u : State} (hhost : ∀ p ∈ s.host, p.rst = false)
    (hrun : core.run k s = .next u) (hok : NoFault u) :
    ∃ ws rs t, ws.Sublist (presentedWords s.host) ∧ runCommands ws s = some (rs, t) ∧
      u.delivered ++ u.rsp.toList = s.delivered ++ s.rsp.toList ++ rs ∧ SameBlock t u := by
  induction k generalizing s with
  | zero =>
    obtain rfl := Host.Outcome.next.inj hrun
    exact ⟨[], [], s, List.nil_sublist _, rfl, (List.append_nil _).symm, sameBlock_refl s⟩
  | succ k ih =>
    obtain ⟨t, ht, hrest⟩ := step_of_run_succ hrun
    obtain ⟨hhost', event⟩ := step_without_reset (pins_rst_of_forall hhost) ht
    obtain ⟨ws, rs, v, hsub, hws, hrsps, same⟩ := ih (fun p hp => hhost p (List.mem_of_mem_tail (hhost' ▸ hp))) hrest
    have hv_ok : NoFault v := same.err.symm.trans hok
    rw [hhost'] at hsub
    rcases event with ⟨hidle, hvalid, hdel, s', r, hcmd, hr, same', hr'⟩ | ⟨hkept, same'⟩
    · obtain ⟨v', hws', samev⟩ := runCommands_sameBlock same' hws hv_ok
      refine ⟨_ :: ws, r :: rs, v', presentedWords_of_cmdValid hvalid ▸ hsub.cons_cons _,
        runCommands_cons_of_next hcmd (hr' (noFault_of_runCommands hws hv_ok)) hws', ?_,
        sameBlock_trans (sameBlock_symm samev) same⟩
      simp [hrsps, hdel, hr, hidle]
    · obtain ⟨v', hws', samev⟩ := runCommands_sameBlock (sameBlock_symm same') hws hv_ok
      exact ⟨ws, rs, v', hsub.trans (presentedWords_tail_sublist s.host), hws', hkept ▸ hrsps,
        sameBlock_trans (sameBlock_symm samev) same⟩

/-- Settles O57: the general run, from a state without a pending response. -/
theorem anyHostRunIsACommandSequence : Obligations.AnyHostRunIsACommandSequence := by
  intro s u k hidle hhost hrun hok
  obtain ⟨ws, rs, t, hsub, hws, hrsps, same⟩ := exists_sequence_of_run hhost hrun hok
  refine ⟨ws, rs, t, hsub, hws, ?_, same⟩
  simpa [hidle] using hrsps

/-! ### The host that waits `LAT` edges (R58, R162) -/

/-- The pins of a host that only waits for a response. -/
def readyPins : Pins := ⟨false, false, 0, true⟩

theorem patient_eq (n : Nat) (w : CmdWord) : patient n w = ⟨false, true, w, true⟩ :: List.replicate n readyPins := rfl

/-- A waiting host takes the pending response, if any, as soon as it is valid, and presents nothing. -/
theorem step_ready {s t : State} (hpins : s.pins = readyPins) (ht : step s = .next t) :
    t.host = s.host.tail ∧ t.delivered ++ t.rsp.toList = s.delivered ++ s.rsp.toList ∧ SameBlock s t ∧
      (t.busy = true → s.busy = true ∧ s.rspWait ≠ 0 ∧ t.rspWait = s.rspWait - 1) := by
  cases event_of_step ht with
  | reset h _ => rw [hpins] at h; cases h
  | idle _ hrsp _ ht =>
    subst ht
    exact ⟨rfl, rfl, drawn_sameBlock s, fun hb => by simp [State.busy, hrsp] at hb⟩
  | accept _ _ hvalid _ => rw [hpins] at hvalid; cases hvalid
  | wait r _ hrsp hwait ht =>
    subst ht
    rw [hpins] at hwait
    exact ⟨rfl, rfl, waitEdge_sameBlock s, fun _ => ⟨busy_of_rsp_some hrsp, fun h0 => hwait ⟨h0, rfl⟩, rfl⟩⟩
  | transfer r _ hrsp _ _ ht =>
    subst ht
    exact ⟨rfl, by simp [hrsp], transfer_sameBlock s r, nofun⟩

/-- As many waiting edges as the response needs end with it delivered. -/
theorem run_ready (n : Nat) {s : State} {rest : List Pins} (hhost : s.host = List.replicate n readyPins ++ rest)
    (hwait : s.busy = true → s.rspWait < n) :
    ∃ t : State, core.run n s = .next t ∧ t.rsp = none ∧ t.host = rest ∧
      t.delivered = s.delivered ++ s.rsp.toList ∧ SameBlock s t := by
  induction n generalizing s with
  | zero =>
    have hidle : s.rsp = none :=
      rsp_none_of_not_busy (Bool.eq_false_iff.mpr fun hb => absurd (hwait hb) (Nat.not_lt_zero _))
    exact ⟨s, rfl, hidle, hhost, by simp [hidle], sameBlock_refl s⟩
  | succ n ih =>
    obtain ⟨t, ht⟩ := step_next s
    have hpins : s.pins = readyPins := by rw [State.pins, hhost]; rfl
    obtain ⟨hthost, hrsps, same, hbusy⟩ := step_ready hpins ht
    rw [hhost] at hthost
    obtain ⟨u, hu, hidle, huhost, hdel, same'⟩ := ih hthost fun hb => by
      obtain ⟨hsb, hne, hw⟩ := hbusy hb
      have := hwait hsb
      omega
    exact ⟨u, (run_succ core n s t ht).trans hu, hidle, huhost, hdel.trans hrsps, sameBlock_trans same same'⟩

/-- One word of a patient host: accepted, executed, and its response taken, by the end of the `LAT` waiting edges. -/
theorem run_patient {w : CmdWord} {s t : State} {r : Response} {rest : List Pins} (hidle : s.rsp = none)
    (hhost : s.host = patient s.cfg.lat w ++ rest) (hw : command w s = .next t) (hr : t.rsp = some r) (hok : NoFault t) :
    ∃ u : State, core.run (s.cfg.lat + 1) s = .next u ∧ u.rsp = none ∧ u.host = rest ∧
      u.delivered = s.delivered ++ [r] ∧ SameBlock t u := by
  have hpins : s.pins = ⟨false, true, w, true⟩ := by rw [State.pins, hhost]; rfl
  obtain ⟨v, hv, same, hrsp⟩ := command_sameBlock (begin_sameBlock s) hw
  have hstep : step s = .next v := by
    rw [step_accept hidle (by rw [hpins]) (by rw [hpins]), hpins]
    exact hv
  have elsewhere := sameElsewhere_of_effect (effect_of_command hv)
  have hvhost : v.host = List.replicate s.cfg.lat readyPins ++ rest := by
    rw [elsewhere.host, State.begin_host, State.popPins_host, hhost]
    rfl
  have hvwait : v.rspWait < s.cfg.lat := elsewhere.rspWait ▸ Nat.mod_lt _ s.cfg.latMinusOne.succ_pos
  obtain ⟨u, hu, huidle, huhost, hdel, same'⟩ := run_ready s.cfg.lat hvhost fun _ => hvwait
  refine ⟨u, (run_succ core _ s v hstep).trans hu, huidle, huhost, ?_, sameBlock_trans same same'⟩
  rw [hdel, hrsp hok, hr, elsewhere.delivered]
  rfl

/-- Settles O58: word by word, each response being taken before the next word is presented. -/
theorem patientHostGetsEveryResponse : Obligations.PatientHostGetsEveryResponse := by
  intro ws
  induction ws with
  | nil =>
    intro s t rs hidle hhost hrun _
    cases hrun
    rw [hhost]
    exact ⟨s, rfl, busy_of_rsp_none hidle, sameBlock_refl s, (List.append_nil _).symm⟩
  | cons w ws ih =>
    intro s t rs hidle hhost hrun hok
    obtain ⟨v, r, rs', hv, hr, hrest, rfl⟩ := next_of_runCommands_cons hrun
    rw [List.flatMap_cons] at hhost
    obtain ⟨u, hu, huidle, huhost, hdel, same⟩ := run_patient hidle hhost hv hr (noFault_of_runCommands hrest hok)
    obtain ⟨t', ht', samet⟩ := runCommands_sameBlock same hrest hok
    have hcfg : u.cfg = s.cfg := same.cfg.trans (sameElsewhere_of_effect (effect_of_command hv)).cfg
    obtain ⟨x, hx, hended, samex, hresp⟩ :=
      ih u t' rs' huidle (by rw [huhost, hcfg]) ht' (samet.err.trans hok)
    have hlen : s.host.length = s.cfg.lat + 1 + u.host.length := by
      rw [hhost, huhost, List.length_append, patient_eq, List.length_cons, List.length_replicate]
    refine ⟨x, ?_, hended, sameBlock_trans samet samex, ?_⟩
    · rw [hlen, run_add hu, hx]
    · rw [hresp]
      simp [observe, hdel]

end Sys2Proof.Proofs
end
